-- ==== Sys2Proof/Word.lean ====
section
/-!
DEFINITION. The word types of the NJ310: air times (32 bits, R1), the 24-bit VALUE and DATA fields of
radio frames and the 32-bit frames themselves (R142, R144), and the bytes of the platform port (R155).
-/

namespace Sys2Proof

/-- A value of the air clock: 32 bits, wrapping (R1). -/
abbrev AirTime := BitVec 32

/-- A byte of the platform port (R155). -/
abbrev Byte := BitVec 8

/-- The VALUE of an inbound frame or the DATA of a reply (R142, R144). -/
abbrev Value := BitVec 24

/-- A whole frame of a radio link, bit 31 travelling first (R138). -/
abbrev FrameWord := BitVec 32

end Sys2Proof
end

