-- ==== Sys2Proof/Config.lean ====
section
/-!
DEFINITION. What the NJ310 fixes once and for all, and the free values: what the manual leaves open and no
proof may know (uninterpreted constants without a body).
-/

namespace Sys2Proof.Config

/-- The opening window after ATTACH or REVIVE, in µs (R25, R34). -/
def openingWindow : Nat := 500000

/-- The unit of the presence window P, in µs (R29, R30). -/
def presenceUnit : Nat := 10000

/-- The longest SEL low period, in µs (R140). -/
def selectLimit : Nat := 2000

/-- The unit of the window setting N, in µs (R4). -/
def windowUnit : Nat := 250

/-- The unit of the aging interval in a SET ARBITER, in µs (R157, R161). -/
def agingUnit : Nat := 100

/-- Flow slots of the table (R42). -/
def flowSlots : Nat := 24

/-- Flows one client may own (R43). -/
def flowsPerClient : Nat := 12

/-- Entry numbers of the plan (R58). -/
def planEntries : Nat := 32

/-- Entries one client may own (R59). -/
def entriesPerClient : Nat := 16

/-- The whole of the air, in load units (R60). -/
def fullLoad : Nat := 1024

/-- The largest denial streak (R53). -/
def streakMax : Nat := 15

/-- The largest value of the 16-bit event and flow counters (R7, R55). -/
def counterMax : Nat := 65535

/-- The largest value of a link-error counter (R141). -/
def linkErrorMax : Nat := 255

/-- The SR channels and the fewest of them left usable (R128, R133). -/
def srChannels : Nat := 79
/-- The fewest SR channels left usable (R133). -/
def srMinimum : Nat := 20
/-- The AR channels (R128). -/
def arChannels : Nat := 16
/-- The fewest AR channels left usable (R133). -/
def arMinimum : Nat := 4

/-- FREE VALUE. Which of several internal events due at one air time is taken first: the manual gives the
outcome of every order and fixes none (00_scope.md, Events and their order). The argument is the counter
`State.freeIndex`; the answer is used modulo the number of events due. Log entry 2. -/
opaque eventChoice : Nat → Nat

/-- FREE VALUE. The reply an empty reply register would carry with the announcement flag clear, a
combination R146 and R148 never bring about and for which the manual states no reply. The argument is the
counter `State.freeIndex`. Log entry 6. -/
opaque emptyRegisterReply : Nat → FrameWord

end Sys2Proof.Config
end

