-- ==== Sys2Proof/Syntax.lean ====
section
/-!
DEFINITION. The commands and events of the NJ310: one constructor of `Instr` per row of
spec/opcode_table.json, with the operands that the rows' rules give them.
-/

namespace Sys2Proof

/-- The three clients, each named by its role and reached over its own link (00_scope.md, Parties and naming). -/
inductive Client where
  | nr | sr | ar
  deriving DecidableEq, Repr

/-- Why a finished SEL low period is rejected as a damaged frame (R139). -/
inductive FrameFault where
  /-- 1..31 rising edges of CLK. -/
  | short (edges : Nat)
  /-- 33 or more rising edges of CLK. -/
  | long (edges : Nat)
  /-- 32 rising edges with an even number of ones. -/
  | parity (bits : FrameWord)
  /-- 32 rising edges with all bits 0 (`false`) or all bits 1 (`true`). -/
  | stuck (level : Bool)
  deriving DecidableEq, Repr

/-- Why a platform write is discarded (R156, steps 1 and 2). -/
inductive WriteFault where
  /-- The command byte names no command of R157. -/
  | unknown (command : Byte)
  /-- The command byte names a command, but the count of parameter bytes is not its fixed count, or the
  write ended within a byte (`midByte`). -/
  | length (command : Byte) (parameters : Nat) (midByte : Bool)
  /-- The write ended within its first data byte, so that no command byte is complete (log entry 8). -/
  | noCommand
  deriving DecidableEq, Repr

/-- The input levels that count at the end of reset: the address straps (R155), the REQ and PRIO lines
(R113) and the SEL lines (R138) of the three clients; `true` is high. -/
structure ResetPins where
  straps : BitVec 2
  reqNR : Bool
  reqSR : Bool
  reqAR : Bool
  prioNR : Bool
  prioSR : Bool
  prioAR : Bool
  selNR : Bool
  selSR : Bool
  selAR : Bool
  deriving DecidableEq, Repr

/-- The commands and events, one constructor per row of spec/opcode_table.json, in the table's order.

* Rows of a radio link carry the client whose link it is. A frame that passes the link checks carries its
  24-bit VALUE (R142), or, for a FETCH, its 16-bit argument (R143), unread bits included.
* Rows that the air clock brings about carry the client or the entry number whose deadline is reached.
* Rows of the platform port carry the parameter bytes of the write (R157). -/
inductive Instr where
  /-- RESET_END: the rise of RESETN, with the input levels sampled there (R1, R109, R113, R138, R155). -/
  | resetEnd (pins : ResetPins)
  /-- RESETN_LOW: RESETN goes, or is, low (R109). -/
  | resetnLow
  /-- REPLY_CAPTURE: SEL of the client's link falls (R147). -/
  | replyCapture (c : Client)
  /-- PAUSE: SEL rises with no rising edge of CLK in the SEL low period (R139). -/
  | pause (c : Client)
  /-- FRAME_REJECTED: SEL rises on a damaged frame (R141). -/
  | frameRejected (c : Client) (cause : FrameFault)
  /-- SELECT_TIMEOUT: the air clock reaches the select deadline with SEL still low (R140). -/
  | selectTimeout (c : Client)
  /-- PRESENT, code 0; VALUE is not read (R30). -/
  | present (c : Client) (value : Value)
  /-- ATTACH, code 1; VALUE is not read (R25, R26). -/
  | attach (c : Client) (value : Value)
  /-- DETACH, code 2; VALUE is not read (R28). -/
  | detach (c : Client) (value : Value)
  /-- OPEN FLOW, code 3; VALUE is the handle (R44). -/
  | openFlow (c : Client) (value : Value)
  /-- CLOSE FLOW, code 4; VALUE is the handle (R45). -/
  | closeFlow (c : Client) (value : Value)
  /-- RECLASS, code 5; VALUE holds the handle and the class code (R49). -/
  | reclass (c : Client) (value : Value)
  /-- BIND LIVE, code 6; VALUE is the handle, 0 unbinds (R52). -/
  | bindLive (c : Client) (value : Value)
  /-- POST, code 7; VALUE is the handle (R61). -/
  | post (c : Client) (value : Value)
  /-- RETIME, code 8; VALUE holds the entry number and the signed offset (R77). -/
  | retime (c : Client) (value : Value)
  /-- CANCEL, code 9; VALUE is the entry number (R75). -/
  | cancel (c : Client) (value : Value)
  /-- CHANNEL NOTE, code 10; VALUE holds the centre offset and the width (R129). -/
  | channelNote (c : Client) (value : Value)
  /-- FETCH TIME, item 0; the argument is not read (R3). -/
  | fetchTime (c : Client) (arg : BitVec 16)
  /-- FETCH STATUS, item 1; the argument is not read (R145). -/
  | fetchStatus (c : Client) (arg : BitVec 16)
  /-- FETCH NOTES, item 2; the argument is not read (R145). -/
  | fetchNotes (c : Client) (arg : BitVec 16)
  /-- FETCH ACCOUNT, item 3; the argument is not read (R15). -/
  | fetchAccount (c : Client) (arg : BitVec 16)
  /-- FETCH LAST, item 4; the argument is not read (R15). -/
  | fetchLast (c : Client) (arg : BitVec 16)
  /-- FETCH MASK0..MASK3, items 5..8: `part` is 0..3, the argument names the mask (R136). -/
  | fetchMask (c : Client) (part : BitVec 2) (arg : BitVec 16)
  /-- FETCH FLOW, item 9; the argument is the handle (R56). -/
  | fetchFlow (c : Client) (arg : BitVec 16)
  /-- FETCH FLOWCOUNT, item 10; the argument holds the handle and the counter number (R55). -/
  | fetchFlowcount (c : Client) (arg : BitVec 16)
  /-- FETCH ENTRY, item 11; the argument holds the entry number and the part (R81). -/
  | fetchEntry (c : Client) (arg : BitVec 16)
  /-- CLEAR NOTES, code 12; VALUE holds the mask (R152). -/
  | clearNotes (c : Client) (value : Value)
  /-- A parameter frame, KIND 1: CODE is the draft field index (R149). -/
  | parameterFrame (c : Client) (index : BitVec 5) (value : Value)
  /-- A passing frame of reserved KIND 2 or 3, or of KIND 0 with CODE 13..31 (R142). -/
  | reservedFrame (c : Client) (kind : BitVec 2) (code : BitVec 5) (value : Value)
  /-- REQ_RISE: a confirmed rise of the client's REQ line (R113, R114). -/
  | reqRise (c : Client)
  /-- REQ_FALL: a confirmed fall of the client's REQ line (R113, R122). -/
  | reqFall (c : Client)
  /-- PRIO_EDGE: a confirmed change of the client's PRIO line to `level` (R113). -/
  | prioEdge (c : Client) (level : Bool)
  /-- AGING_EXPIRY of the client's WAITING live claim (R116). -/
  | agingExpiry (c : Client)
  /-- HOLD_EXPIRY of the client's HOLDING live claim (R120). -/
  | holdExpiry (c : Client)
  /-- PRESENCE_EXPIRY of the client (R31). -/
  | presenceExpiry (c : Client)
  /-- START_REACHED: a SCHEDULED entry's nominal start is reached (R68). -/
  | startReached (n : Fin 32)
  /-- MISS: a DUE entry's miss deadline is reached (R71). -/
  | miss (n : Fin 32)
  /-- OCCURRENCE_END: a HOLDING entry's occurrence end is reached (R70). -/
  | occurrenceEnd (n : Fin 32)
  /-- SUSPENDED_STEP: a suspended periodic entry's nominal start is reached (R79). -/
  | suspendedStep (n : Fin 32)
  /-- ONESHOT_EXPIRED: a suspended one-shot's nominal start plus slide is reached (R79). -/
  | oneshotExpired (n : Fin 32)
  /-- GUARD_END_SETTLING (R96). -/
  | guardEndSettling
  /-- GUARD_END_PARKING (R97). -/
  | guardEndParking
  /-- ROLLOVER of the accounting window (R8). -/
  | rollover
  /-- PENALTY_CROSSING: the holder's usage reaches a penalty threshold (R13). -/
  | penaltyCrossing
  /-- SET CLASS, 0x01 (R159). -/
  | setClass (code base step flags : Byte) (holdLimit : BitVec 16)
  /-- SET CLIENT, 0x02 (R160). -/
  | setClient (client share : Byte) (cap : BitVec 16) (presence rank : Byte)
  /-- SET WINDOW, 0x03 (R161). -/
  | setWindow (n r : Byte)
  /-- SET ARBITER, 0x04 (R161). -/
  | setArbiter (guardTime margin aging position channelGuard : Byte)
  /-- FREEZE PLAN, 0x05 (R38). -/
  | freezePlan (client state : Byte)
  /-- PIN FLOW, 0x06 (R50). -/
  | pinFlow (slot code : Byte)
  /-- UNPIN FLOW, 0x07 (R51). -/
  | unpinFlow (slot : Byte)
  /-- DROP ENTRY, 0x08 (R76). -/
  | dropEntry (entry : Byte)
  /-- EVICT, 0x09 (R35). -/
  | evict (client : Byte)
  /-- REVIVE, 0x0A (R34). -/
  | revive (client : Byte)
  /-- START SURVEY, 0x0B (R17). -/
  | startSurvey (k : Byte)
  /-- STOP SURVEY, 0x0C (R20). -/
  | stopSurvey
  /-- RESTART, 0x0D (R163). -/
  | restart
  /-- SET ATTN MASK, 0x0E (R166). -/
  | setAttnMask (mask : BitVec 16)
  /-- CLEAR NOTICES, 0x0F (R168). -/
  | clearNotices (mask : BitVec 16)
  /-- READ NOTICES, 0x20 (R167). -/
  | readNotices
  /-- READ CLIENT, 0x21 (R164). -/
  | readClient (client : Byte)
  /-- READ ACCOUNT, 0x22 (R164). -/
  | readAccount (client : Byte)
  /-- READ FLOW, 0x23 (R164). -/
  | readFlow (slot : Byte)
  /-- READ ENTRY, 0x24 (R164). -/
  | readEntry (entry : Byte)
  /-- READ PLAN ORDER, 0x25 (R164, R80). -/
  | readPlanOrder
  /-- READ AIR, 0x26 (R111). -/
  | readAir
  /-- READ CHANNEL, 0x27 (R137). -/
  | readChannel
  /-- READ SURVEY, 0x28 (R22). -/
  | readSurvey
  /-- DISCARDED_WRITE: a platform write refused with UNKNOWN or LENGTH (R156). -/
  | discardedWrite (cause : WriteFault)
  /-- EMPTY_WRITE: a write to the port with no data byte (R156). -/
  | emptyWrite
  /-- ABORTED_FRAME_END: the SEL rise after a frame aborted at its select deadline (R140). -/
  | abortedFrameEnd (c : Client)
  /-- SEL_RISE_AFTER_RESET: the rise of a SEL that was low at the end of reset (R138). -/
  | selRiseAfterReset (c : Client)
  /-- FETCH_ITEM_ABOVE_11: a passing FETCH frame whose item code is above 11 (R147). -/
  | fetchItemAbove11 (c : Client) (item : BitVec 8) (arg : BitVec 16)
  deriving DecidableEq, Repr

end Sys2Proof
end

