-- ==== Sys2Proof/Machine/Blocks.lean ====
section
/-!
DEFINITION. The types of what each block of the NJ310 holds, as plain data (00_scope.md, Block overview);
Machine/State.lean puts them together.
-/

namespace Sys2Proof.Machine

/-- One value for each client. -/
structure PerClient (α : Type) where
  nr : α
  sr : α
  ar : α
  deriving DecidableEq, Repr

/-- The client's value. -/
def PerClient.get {α : Type} (p : PerClient α) : Client → α
  | .nr => p.nr
  | .sr => p.sr
  | .ar => p.ar

/-- The same values, the client's replaced. -/
def PerClient.set {α : Type} (p : PerClient α) (c : Client) (x : α) : PerClient α :=
  match c with
  | .nr => { p with nr := x }
  | .sr => { p with sr := x }
  | .ar => { p with ar := x }

/-- The same value for every client. -/
def PerClient.all {α : Type} (x : α) : PerClient α := ⟨x, x, x⟩

/-! ## Policy store (R86, R89, chapters 1, 2, 4, 5, 7) -/

/-- The traffic classes, codes 0..5 (R42, R86). -/
inductive FlowClass where
  | anchor | voice | stream | input | bulk | seek
  deriving DecidableEq, Repr

/-- One row of the class table (R86). -/
structure ClassRow where
  /-- Base priority B, 0..15. -/
  base : Nat
  /-- Aging step A, 0..3. -/
  step : Nat
  /-- Whether the class allows urgency. -/
  urgent : Bool
  /-- Whether a holding of the class may be preempted. -/
  preemptible : Bool
  /-- Live hold limit, 100..65,000 µs. -/
  holdLimit : Nat
  deriving DecidableEq, Repr

/-- The class table, one row per class code (R86). -/
structure ClassTable where
  anchor : ClassRow
  voice : ClassRow
  stream : ClassRow
  input : ClassRow
  bulk : ClassRow
  seek : ClassRow
  deriving DecidableEq, Repr

/-- The per-client policy: share S 0..64 (R11), reserve cap 0..1024 (R65), presence window P 0..255 (R37),
tie rank 0..2 (R93). -/
structure ClientPolicy where
  share : Nat
  cap : Nat
  presence : Nat
  rank : Nat
  deriving DecidableEq, Repr

/-- The policy store. -/
structure Policy where
  classes : ClassTable
  clients : PerClient ClientPolicy
  /-- Guard time G, 0..63 µs (R89). -/
  guardTime : Nat
  /-- Preemption margin M, 1..63 (R89). -/
  margin : Nat
  /-- Aging interval, 100..5,000 µs (R116). -/
  agingInterval : Nat
  /-- Default switch position (R89). -/
  defaultPos : Client
  /-- Channel guard g, 0..15 MHz (R128). -/
  channelGuard : Nat
  /-- Window setting N, 3..255 (R4). -/
  windowN : Nat
  /-- Review postscale R, 1..16 (R16). -/
  reviewR : Nat
  deriving DecidableEq, Repr

/-! ## Air accountant (chapter 1) -/

/-- The accounts the running charge can go to (R5). -/
inductive Account where
  | usage (c : Client)
  | guardTime
  | idleTime
  deriving DecidableEq, Repr

/-- The last-window record (R9). -/
structure WindowRecord where
  length : Nat
  held : PerClient Nat
  guardTime : Nat
  idleTime : Nat
  preemptions : Nat
  misses : Nat
  overstays : Nat
  deriving DecidableEq, Repr

/-- The survey unit's states (section 1.5). -/
inductive SurveyState where
  | idle | armed | running
  deriving DecidableEq, Repr

/-- The running sums of a survey (R18), and the same fields of its result (R19). -/
structure SurveySums where
  held : PerClient Nat
  guardTime : Nat
  idleTime : Nat
  preemptions : Nat
  misses : Nat
  overstays : Nat
  deriving DecidableEq, Repr

/-- The survey unit (R17 to R22): its state, the stored K, the count of windows summed, the running sums, and
the result record (Windows, Window length, sums). -/
structure Survey where
  state : SurveyState
  k : Nat
  summed : Nat
  sums : SurveySums
  resultWindows : Nat
  resultLength : Nat
  result : SurveySums
  deriving DecidableEq, Repr

/-- The air accountant (section 1.2). The window length W in force follows from the window setting N held in
the policy store, since every write of N restarts the window (R4). -/
structure Accountant where
  windowStart : AirTime
  usage : PerClient Nat
  guardTime : Nat
  idleTime : Nat
  preemptions : Nat
  misses : Nat
  overstays : Nat
  /-- The account now being charged (R5). -/
  charged : Account
  /-- The air time charging of it began (R5). -/
  chargeStart : AirTime
  /-- The penalties P, 0..15 (R12). -/
  penalty : PerClient Nat
  last : WindowRecord
  reviewCount : Nat
  survey : Survey
  deriving DecidableEq, Repr

/-! ## Client supervisor (chapter 2) -/

/-- The client states (R24). -/
inductive ClientState where
  | detached | opening | active | silent
  deriving DecidableEq, Repr

/-- What the supervisor holds of a client (chapter 2): its state, the presence deadline, the plan-freeze flag. -/
structure Supervision where
  state : ClientState
  deadline : Option AirTime
  frozen : Bool
  deriving DecidableEq, Repr

/-! ## Flow table (chapter 3) -/

/-- A flow record (R42). The table is a list of the records that exist, slots strictly rising. -/
structure Flow where
  slot : Nat
  owner : Client
  handle : Nat
  requested : FlowClass
  pinned : Option FlowClass
  streak : Nat
  grants : Nat
  served : Nat
  missed : Nat
  cuts : Nat
  overstays : Nat
  deriving DecidableEq, Repr

/-! ## Air plan (chapter 4) -/

/-- The states of a plan entry (R58): the grant start is present in HOLDING only, the expired mark of a
one-shot (R79) in SUSPENDED only. -/
inductive EntryStatus where
  | scheduled
  | due
  | holding (grantStart : AirTime)
  | suspended (expired : Bool)
  deriving DecidableEq, Repr

/-- A plan entry (R58). The plan is a list of the entries that exist, numbers strictly rising. -/
structure Entry where
  number : Nat
  owner : Client
  flow : Nat
  start : AirTime
  duration : Nat
  period : Nat
  count : Nat
  slide : Nat
  load : Nat
  status : EntryStatus
  pendingOffset : Option (BitVec 13)
  deriving DecidableEq, Repr

/-! ## Grant arbiter (chapter 5)

The claim board (R84) is a view of the live claims and of the plan's DUE and HOLDING entries, computed in
Machine/Arbiter.lean: each claim is stored once, in the block that owns it. -/

/-- The arbiter states with what each holds (R89): the guard deadline in PARKING and SETTLING, the next holder
in SETTLING, the holder in HELD. -/
inductive ArbiterMode where
  | free
  | parking (guardEnd : AirTime)
  | settling (next : Client) (guardEnd : AirTime)
  | held (holder : Client)
  deriving DecidableEq, Repr

/-- The arbiter's record (R89): its state and the switch position, which ANT1 and ANT0 show (R90). -/
structure Arbiter where
  mode : ArbiterMode
  position : Client
  deriving DecidableEq, Repr

/-! ## Live request unit (chapter 6) -/

/-- The live claim states with what each holds (R112): the urgency bit and the aging deadline in WAITING; the
urgency bit, the hold start and the hold deadline in HOLDING. -/
inductive LiveState where
  | idle
  | waiting (urgent : Bool) (aging : AirTime)
  | holding (urgent : Bool) (start deadline : AirTime)
  | spent
  deriving DecidableEq, Repr

/-- A live claim record (R112). -/
structure LiveClaim where
  state : LiveState
  binding : Option Nat
  reqLevel : Bool
  prioLevel : Bool
  deriving DecidableEq, Repr

/-! ## Channel map unit (chapter 7) -/

/-- The channel widths a note can carry, 20 or 40 MHz (R129). -/
inductive Width where
  | w20 | w40
  deriving DecidableEq, Repr

/-- A channel note in the band: centre Fc in MHz and width (R128). -/
structure ChannelNote where
  centre : Nat
  width : Width
  deriving DecidableEq, Repr

/-- The channel map unit (R128, R137): the note (none: not in band), the avoided channels of both masks in
rising order, and how many channels of each R133 restored at the last recomputation. -/
structure ChannelUnit where
  note : Option ChannelNote
  srAvoided : List Nat
  arAvoided : List Nat
  srRestored : Nat
  arRestored : Nat
  deriving DecidableEq, Repr

/-! ## Radio links (chapter 8) -/

/-- The result codes of a reply, codes 0..12 in this order (R144). -/
inductive Result where
  | ok | contested | noRoom | duplicate | unknown | range | load | late | state | locked | role | frame
  | restart
  deriving DecidableEq, Repr

/-- The reply register (R146): empty, a FRAME reply (R141), a result and DATA fixed at the taking, or a FETCH
whose item and argument are settled at the capture moment (R147). -/
inductive ReplyRegister where
  | empty
  | frameReply
  | answer (result : Result) (data : Value)
  | fetch (item : BitVec 8) (arg : BitVec 16)
  deriving DecidableEq, Repr

/-- The receive state of a link between the rows: ready (SEL high); in a frame, with the select deadline
(R140), the reply the frame carries as chosen at its SEL fall (R147), whether it is the announcement, and
whether the announcement flag has been set again since that fall (R146); after an abort, waiting for SEL to
rise (R140); waiting for the rise of a SEL that was low at the end of reset (R138). The clock edges and bits
of a SEL low period come with the row that ends it. -/
inductive Receive where
  | ready
  | inFrame (deadline : AirTime) (reply : FrameWord) (announcing setAgain : Bool)
  | aborted
  | awaitingRise
  deriving DecidableEq, Repr

/-- The draft record: six fields of 24 bits (R149). -/
structure Draft where
  flowClass : Value
  start : Value
  duration : Value
  period : Value
  count : Value
  slide : Value
  deriving DecidableEq, Repr

/-- What a radio link holds (chapter 8): receive state, reply register, announcement flag, draft record,
client notice flags (bit 0 MASK to bit 6 POLICY, R145) and link-error counter. -/
structure Link where
  receive : Receive
  reply : ReplyRegister
  announce : Bool
  draft : Draft
  notices : BitVec 7
  errors : Nat
  deriving DecidableEq, Repr

/-! ## Platform port (chapter 9) -/

/-- The result bytes of the platform port, 0x00..0x05 in this order (R158). -/
inductive PortResult where
  | ok | clamped | length | unknown | range | busy
  deriving DecidableEq, Repr

/-- What the platform port holds (R155): the strap levels sampled at the end of reset, the last result, the
readout, the platform notice flags (bit 0 RESET to bit 9 REFUSED, R165) and the ATTN enable mask. -/
structure Port where
  straps : BitVec 2
  lastResult : PortResult
  readout : List Byte
  flags : BitVec 10
  attnMask : BitVec 10
  deriving DecidableEq, Repr

end Sys2Proof.Machine
end

