-- ==== Sys2Proof/Machine/PowerOn.lean ====
section
/-!
DEFINITION. What each block holds at the end of power-on reset (the reset rules of chapters 1 to 9).
-/

namespace Sys2Proof.Machine

/-- The class table at power-on (R86). -/
def ClassTable.powerOn : ClassTable where
  anchor := ⟨15, 0, true, false, 2000⟩
  voice := ⟨12, 2, true, false, 3000⟩
  stream := ⟨10, 2, true, true, 5000⟩
  input := ⟨9, 3, true, true, 1500⟩
  bulk := ⟨6, 1, false, true, 10000⟩
  seek := ⟨3, 1, false, true, 20000⟩

/-- The policy store at power-on (R4, R11, R16, R37, R65, R86, R89, R93, R116, R128). -/
def Policy.powerOn : Policy where
  classes := .powerOn
  clients := ⟨⟨32, 512, 100, 0⟩, ⟨24, 384, 100, 1⟩, ⟨8, 128, 100, 2⟩⟩
  guardTime := 10
  margin := 16
  agingInterval := 500
  defaultPos := .nr
  channelGuard := 2
  windowN := 79
  reviewR := 1

/-- The all-zero window record (R9). -/
def WindowRecord.zero : WindowRecord := ⟨0, .all 0, 0, 0, 0, 0, 0⟩

/-- Survey sums of nothing (R17). -/
def SurveySums.zero : SurveySums := ⟨.all 0, 0, 0, 0, 0, 0⟩

/-- The survey unit at power-on (R17, R19, R22). -/
def Survey.powerOn : Survey := ⟨.idle, 0, 0, .zero, 0, 0, .zero⟩

/-- The accountant at power-on, charging the given account from air time 0 (R4 to R23). -/
def Accountant.powerOn (charged : Account) : Accountant where
  windowStart := 0
  usage := .all 0
  guardTime := 0
  idleTime := 0
  preemptions := 0
  misses := 0
  overstays := 0
  charged := charged
  chargeStart := 0
  penalty := .all 0
  last := .zero
  reviewCount := 0
  survey := .powerOn

/-- The draft record's reset values (R149). -/
def Draft.initial : Draft := ⟨4, 0, 1000, 0, 1, 0⟩

/-- A link at power-on (R148, R154); a SEL low at the end of reset begins no frame (R138). -/
def Link.powerOn (selHigh : Bool) : Link where
  receive := if selHigh then .ready else .awaitingRise
  reply := .empty
  announce := true
  draft := .initial
  notices := 0
  errors := 0

/-- A live claim record at power-on, the recorded levels being those of the lines (R112). -/
def LiveClaim.powerOn (req prio : Bool) : LiveClaim := ⟨.idle, none, req, prio⟩

/-- The channel map unit at power-on: not in band, every channel usable (R128). -/
def ChannelUnit.clear : ChannelUnit := ⟨none, [], [], 0, 0⟩

/-- The arbiter at the end of power-on reset: PARKING at NR with a guard of the power-on G running from air
time 0 (R109). -/
def Arbiter.powerOn : Arbiter := ⟨.parking 10, .nr⟩

/-- The platform port at power-on, with the straps sampled at the end of reset: last result OK, readout empty,
RESET set, and RESET and the three SILENT notices enabled onto ATTN (R155, R165, R166). -/
def Port.powerOn (straps : BitVec 2) : Port := ⟨straps, .ok, [], 0x001, 0x00F⟩

/-- A supervised client at power-on (R24). -/
def Supervision.powerOn : Supervision := ⟨.detached, none, false⟩

/-- DESIGN CHOICE (log entry 1): the input levels behind `State.reset`, which the manual leaves to the board:
straps 00, every REQ and PRIO low, every SEL high. -/
def quietPins : ResetPins := ⟨0, false, false, false, false, false, false, true, true, true⟩

end Sys2Proof.Machine
end

