-- ==== Sys2Proof/Machine/State.lean ====
section
/-!
DEFINITION. The state of the NJ310 as plain data, its values at the end of power-on reset, and the reasons a step
could stop.
-/

namespace Sys2Proof.Machine

/-! ## The whole part -/

/-- The state of the NJ310. `resetn` is the level of RESETN; `freeIndex` is the model's own counter behind the
free values of Config (log entries 2 and 6); `pending` is the queue of commands waiting to be taken, first in,
first out. -/
structure State where
  resetn : Bool
  clock : AirTime
  policy : Policy
  acct : Accountant
  sup : PerClient Supervision
  flows : List Flow
  plan : List Entry
  arb : Arbiter
  live : PerClient LiveClaim
  channel : ChannelUnit
  links : PerClient Link
  port : Port
  freeIndex : Nat
  pending : List Instr
  deriving DecidableEq, Repr

/-- The part at the end of power-on reset, for the input levels sampled there, with the given queue: RESETN
high, the air clock at 0, the arbiter PARKING at NR with a guard of the power-on G running to air time 10
(R109), the RESET notice set (R165), and everything else at its power-on value. -/
def State.powerOn (pins : ResetPins) (freeIndex : Nat) (pending : List Instr) : State where
  resetn := true
  clock := 0
  policy := .powerOn
  acct := .powerOn .guardTime
  sup := .all .powerOn
  flows := []
  plan := []
  arb := .powerOn
  live := ⟨.powerOn pins.reqNR pins.prioNR, .powerOn pins.reqSR pins.prioSR,
    .powerOn pins.reqAR pins.prioAR⟩
  channel := .clear
  links := ⟨.powerOn pins.selNR, .powerOn pins.selSR, .powerOn pins.selAR⟩
  port := .powerOn pins.straps
  freeIndex := freeIndex
  pending := pending

/-- The part while RESETN is low (R109, R138, R154, R155, R57, R83): the air clock holds 0, the arbiter is FREE at
NR, nothing is held, and the platform notice flags are clear, since RESET is set at the end of RESETN low
(R165). The recorded REQ and PRIO levels and the sampled straps, which the rules give from the end of reset on only,
stay as last recorded until then: DESIGN CHOICE, log entry 20. -/
def State.resetHeld (s : State) : State :=
  { State.powerOn
      ⟨s.port.straps, s.live.nr.reqLevel, s.live.sr.reqLevel, s.live.ar.reqLevel,
        s.live.nr.prioLevel, s.live.sr.prioLevel, s.live.ar.prioLevel, true, true, true⟩
      s.freeIndex s.pending with
    resetn := false
    acct := .powerOn .idleTime
    arb := ⟨.free, .nr⟩
    port := { Port.powerOn s.port.straps with flags := 0 } }

/-- The machine right after reset: the end of RESETN low with quiet input lines, nothing pending. -/
def State.reset : State := State.powerOn quietPins 0 []

/-! ## Outcomes -/

/-- The reasons a step could stop with a fault: none. The manual gives every row an effect in every state, or
says that it is ignored, so this type has no constructor. -/
inductive Fault where
  deriving DecidableEq, Repr

/-- The reasons a command could be refused. -/
inductive Refusal where
  /-- Raised by an arm of `exec` whose row has no meaning yet (safe); no arm of this model raises it. -/
  | notModelled (mnemonic : String)
  deriving DecidableEq, Repr

end Sys2Proof.Machine
end

