-- ==== Sys2Proof/Machine/Operands.lean ====
section
/-!
DEFINITION. Operand forms: the fields of VALUE and of a FETCH argument (R143, R145), class codes and client
indices (R86, R157), and the platform port's saturation of values into their ranges (R156).
-/

namespace Sys2Proof.Machine

/-! ## Names carried as numbers -/

/-- The clients in the order of their indices (R157). -/
def clientList : List Client := [.nr, .sr, .ar]

/-- The client's index: 0 for NR, 1 for SR, 2 for AR (R157); also its switch position on ANT (R90). -/
def clientIndex : Client → Nat
  | .nr => 0
  | .sr => 1
  | .ar => 2

/-- The client an index names; an index above 2 names none (R160, R162, R164). -/
def clientOfIndex (i : Nat) : Option Client :=
  match i with
  | 0 => some .nr
  | 1 => some .sr
  | 2 => some .ar
  | _ => none

/-- The class code (R86). -/
def classCode : FlowClass → Nat
  | .anchor => 0
  | .voice => 1
  | .stream => 2
  | .input => 3
  | .bulk => 4
  | .seek => 5

/-- The class a code names; a code above 5 names none (R44, R49, R159). -/
def classOfCode (n : Nat) : Option FlowClass :=
  match n with
  | 0 => some .anchor
  | 1 => some .voice
  | 2 => some .stream
  | 3 => some .input
  | 4 => some .bulk
  | 5 => some .seek
  | _ => none

/-- The result code of a reply (R144). -/
def resultCode : Result → Nat
  | .ok => 0
  | .contested => 1
  | .noRoom => 2
  | .duplicate => 3
  | .unknown => 4
  | .range => 5
  | .load => 6
  | .late => 7
  | .state => 8
  | .locked => 9
  | .role => 10
  | .frame => 11
  | .restart => 12

/-- The result byte of the platform port (R158). -/
def portResultByte : PortResult → Byte
  | .ok => 0
  | .clamped => 1
  | .length => 2
  | .unknown => 3
  | .range => 4
  | .busy => 5

/-- The client state code (R145). -/
def clientStateCode : ClientState → Nat
  | .detached => 0
  | .opening => 1
  | .active => 2
  | .silent => 3

/-- The live claim state code (R145). -/
def liveStateCode : LiveState → Nat
  | .idle => 0
  | .waiting _ _ => 1
  | .holding _ _ _ => 2
  | .spent => 3

/-- The entry state code (R145, item ENTRY). -/
def entryStatusCode : EntryStatus → Nat
  | .scheduled => 0
  | .due => 1
  | .holding _ => 2
  | .suspended _ => 3

/-- The arbiter state code (R164). -/
def arbiterModeCode : ArbiterMode → Nat
  | .free => 0
  | .parking _ => 1
  | .settling _ _ => 2
  | .held _ => 3

/-- The survey state code (R164). -/
def surveyStateCode : SurveyState → Nat
  | .idle => 0
  | .armed => 1
  | .running => 2

/-- The MHz of a width (R129). -/
def widthMHz : Width → Nat
  | .w20 => 20
  | .w40 => 40

/-! ## Fields of VALUE and of a FETCH argument (R143, R145) -/

/-- The handle carried in the whole VALUE (OPEN FLOW, CLOSE FLOW, BIND LIVE, POST). -/
def wholeHandle (v : Value) : Nat := v.toNat

/-- RECLASS: the handle, bits 23..8. -/
def reclassHandle (v : Value) : Nat := (v.extractLsb' 8 16).toNat

/-- RECLASS: the class code, bits 7..0. -/
def reclassCode (v : Value) : Nat := (v.extractLsb' 0 8).toNat

/-- RETIME: the entry number, bits 23..16. -/
def retimeEntry (v : Value) : Nat := (v.extractLsb' 16 8).toNat

/-- RETIME: the offset, bits 12..0, two's complement. -/
def retimeOffset (v : Value) : BitVec 13 := v.extractLsb' 0 13

/-- CANCEL: the entry number carried in the whole VALUE. -/
def wholeEntry (v : Value) : Nat := v.toNat

/-- CHANNEL NOTE: the centre offset, bits 7..0. -/
def noteOffset (v : Value) : Nat := (v.extractLsb' 0 8).toNat

/-- CHANNEL NOTE: the width, bit 8. -/
def noteWidth (v : Value) : Width := if v.getLsbD 8 then .w40 else .w20

/-- CLEAR NOTES: the mask, bits 6..0. -/
def notesMask (v : Value) : BitVec 7 := v.extractLsb' 0 7

/-- FETCH FLOWCOUNT: the handle, bits 7..0 of the argument. -/
def flowcountHandle (a : BitVec 16) : Nat := (a.extractLsb' 0 8).toNat

/-- FETCH FLOWCOUNT: the counter number, bits 15..8 of the argument. -/
def flowcountNumber (a : BitVec 16) : Nat := (a.extractLsb' 8 8).toNat

/-- FETCH ENTRY: the entry number, bits 7..0 of the argument. -/
def fetchEntryNumber (a : BitVec 16) : Nat := (a.extractLsb' 0 8).toNat

/-- FETCH ENTRY: the part, bit 8 of the argument. -/
def fetchEntryPart (a : BitVec 16) : Bool := a.getLsbD 8

/-- SET CLASS: the urgent-allowed flag, bit 0 of the flags byte (R157). -/
def flagUrgent (b : Byte) : Bool := b.getLsbD 0

/-- SET CLASS: the preemptible flag, bit 1 of the flags byte (R157). -/
def flagPreemptible (b : Byte) : Bool := b.getLsbD 1

/-- FREEZE PLAN: the state, bit 0 (R157). -/
def freezeOn (b : Byte) : Bool := b.getLsbD 0

/-- A notice mask word of the platform port: bits 9..0; bits 15..10 are not read (R157). -/
def portMask (w : BitVec 16) : BitVec 10 := w.extractLsb' 0 10

/-! ## Saturation (R156, step 5) -/

/-- The value brought to the nearest end of its range. -/
def saturate (lo hi x : Nat) : Nat := max lo (min hi x)

/-- The result of an executed write: CLAMPED if any value of it was saturated, OK otherwise. -/
def clampedIf (changed : Bool) : PortResult := if changed then .clamped else .ok

/-- Whether a value lies outside its range. -/
def outside (lo hi x : Nat) : Bool := decide (x < lo) || decide (hi < x)

/-! ## Bytes and words -/

/-- A 16-bit number as two bytes, most significant first (R157). -/
def bytes2 (n : Nat) : List Byte := [BitVec.ofNat 8 (n / 256), BitVec.ofNat 8 n]

/-- A 24-bit number as three bytes, most significant first (R157). -/
def bytes3 (n : Nat) : List Byte :=
  [BitVec.ofNat 8 (n / 65536), BitVec.ofNat 8 (n / 256), BitVec.ofNat 8 n]

/-- One byte. -/
def byte1 (n : Nat) : List Byte := [BitVec.ofNat 8 n]

/-- Whether an odd number of the bits of a frame is 1 (R139, R144). -/
def oddParity (w : FrameWord) : Bool :=
  (List.range 32).foldl (fun acc i => Bool.xor acc (w.getLsbD i)) false

/-- The low 24 bits of an air time (R3). -/
def low24 (t : AirTime) : Value := t.extractLsb' 0 24

end Sys2Proof.Machine
end

