-- ==== Sys2Proof/Machine/Flags.lean ====
section
/-!
DEFINITION. The notice flags of the clients and of the platform, and the ATTN line (R40, R151, R152, R165, R166,
R168).
-/

namespace Sys2Proof.Machine

/-- The client notices, bits 0..6 in this order (R145, R151). -/
inductive Notice where
  | mask | ended | cut | missed | overstay | restored | policy
  deriving DecidableEq, Repr

/-- The flag of a client notice (R145). -/
def noticeBit : Notice → BitVec 7
  | .mask => 0x01
  | .ended => 0x02
  | .cut => 0x04
  | .missed => 0x08
  | .overstay => 0x10
  | .restored => 0x20
  | .policy => 0x40

/-- The platform notices, bits 0..9 in this order; bits 1, 2 and 3 are SILENT-NR, SILENT-SR, SILENT-AR (R165). -/
inductive PortNotice where
  | reset
  | silent (c : Client)
  | linkErr | overstay | review | surveyDone | surveyVoid | refused
  deriving DecidableEq, Repr

/-- The flag of a platform notice (R165). -/
def portBit : PortNotice → BitVec 10
  | .reset => 0x001
  | .silent .nr => 0x002
  | .silent .sr => 0x004
  | .silent .ar => 0x008
  | .linkErr => 0x010
  | .overstay => 0x020
  | .review => 0x040
  | .surveyDone => 0x080
  | .surveyVoid => 0x100
  | .refused => 0x200

/-- The link of a client, changed. -/
def State.onLink (s : State) (c : Client) (f : Link → Link) : State :=
  { s with links := s.links.set c (f (s.links.get c)) }

/-- A notice is given to a client: its flag is set unless the client is DETACHED (R40). -/
def State.giveNotice (s : State) (c : Client) (n : Notice) : State :=
  if (s.sup.get c).state = .detached then s
  else s.onLink c fun l => { l with notices := l.notices ||| noticeBit n }

/-- The notice is given where the condition holds. -/
def State.giveNoticeIf (s : State) (p : Bool) (c : Client) (n : Notice) : State :=
  if p then s.giveNotice c n else s

/-- A platform notice is set, whatever the ATTN enable mask holds (R165). -/
def State.setPortNotice (s : State) (n : PortNotice) : State :=
  { s with port := { s.port with flags := s.port.flags ||| portBit n } }

/-- The flags left when those of a mask are cleared (R152, R168). -/
def clearFlags {w : Nat} (flags mask : BitVec w) : BitVec w := flags &&& ~~~mask

/-- Whether ATTN is driven low: RESETN high and an enabled flag set (R166). -/
def State.attnLow (s : State) : Bool := s.resetn && s.port.flags &&& s.port.attnMask != 0

end Sys2Proof.Machine
end

