-- ==== Sys2Proof/Machine/Ops.lean ====
section
/-!
DEFINITION. The named operations over the state that the rows share: air times and deadlines (R2), the running
charge, allowance and penalty of the accountant (R5, R11, R12), flow records and their counters (R42, R53, R55),
plan entries (R58, R73) and per-client records.
-/

namespace Sys2Proof.Machine

/-! ## Air times (00_scope.md, Time; R2) -/

/-- A is later than B: (A − B) mod 2^32 lies in 1..2^31 − 1. -/
def later (a b : AirTime) : Bool := decide (0 < (a - b).toNat) && decide ((a - b).toNat < 2 ^ 31)

/-- The deadline is reached: the present air time is equal to it or later (R2). -/
def reached (now deadline : AirTime) : Bool := decide (now = deadline) || later now deadline

/-- The air time `n` µs after `t`. -/
def after (t : AirTime) (n : Nat) : AirTime := t + BitVec.ofNat 32 n

/-- The earlier of two air times. -/
def earlierOf (a b : AirTime) : AirTime := if later a b then b else a

/-! ## Saturating counters (00_scope.md, Counters) -/

/-- A 16-bit counter raised by 1 (R7, R55). -/
def raise16 (n : Nat) : Nat := min Config.counterMax (n + 1)

/-- A denial streak raised by 1 (R53). -/
def raiseStreak (d : Nat) : Nat := min Config.streakMax (d + 1)

/-- A 16-bit sum raised by `k` (R18). -/
def add16 (n k : Nat) : Nat := min Config.counterMax (n + k)

/-! ## Policy store -/

/-- The row of a class (R86). -/
def ClassTable.row (t : ClassTable) : FlowClass → ClassRow
  | .anchor => t.anchor
  | .voice => t.voice
  | .stream => t.stream
  | .input => t.input
  | .bulk => t.bulk
  | .seek => t.seek

/-- The table with the row of a class replaced (R159). -/
def ClassTable.setRow (t : ClassTable) (k : FlowClass) (r : ClassRow) : ClassTable :=
  match k with
  | .anchor => { t with anchor := r }
  | .voice => { t with voice := r }
  | .stream => { t with stream := r }
  | .input => { t with input := r }
  | .bulk => { t with bulk := r }
  | .seek => { t with seek := r }

/-- The window length W in µs of a window setting (R4). -/
def windowLength (n : Nat) : Nat := (n + 1) * Config.windowUnit

/-- The window length in force (R4). -/
def State.window (s : State) : Nat := windowLength s.policy.windowN

/-- The allowance of a share S in a window W (R11). -/
def allowanceOf (w share : Nat) : Nat := share * w / 64

/-- The penalty of a usage U under a share S in a window W (R12). -/
def penaltyOf (w share usage : Nat) : Nat :=
  if usage ≤ allowanceOf w share then 0
  else min 15 (1 + (usage - allowanceOf w share) * 64 / w)

/-- The allowance of a client (R11). -/
def State.allowance (s : State) (c : Client) : Nat :=
  allowanceOf s.window (s.policy.clients.get c).share

/-! ## The accountant -/

/-- The account an arbiter state is charged to (R5, R110). -/
def accountOf : ArbiterMode → Account
  | .free => .idleTime
  | .parking _ => .guardTime
  | .settling _ _ => .guardTime
  | .held c => .usage c

/-- The microseconds of the running charge up to now (R5). -/
def State.elapsed (s : State) : Nat := (s.clock - s.acct.chargeStart).toNat

/-- A client's present usage U, the running charge included (R5, R15). -/
def State.usageNow (s : State) (c : Client) : Nat :=
  s.acct.usage.get c + if s.acct.charged = .usage c then s.elapsed else 0

/-- The guard counter, the running charge included (R5). -/
def State.guardNow (s : State) : Nat :=
  s.acct.guardTime + if s.acct.charged = .guardTime then s.elapsed else 0

/-- The idle counter, the running charge included (R5). -/
def State.idleNow (s : State) : Nat :=
  s.acct.idleTime + if s.acct.charged = .idleTime then s.elapsed else 0

/-- The penalty R12 gives a client for its present usage. -/
def State.penaltyNow (s : State) (c : Client) : Nat :=
  penaltyOf s.window (s.policy.clients.get c).share (s.usageNow c)

/-- The penalties with the charged client's brought to R12's value for the usage it has reached. -/
def State.chargedPenalty (s : State) : PerClient Nat :=
  match s.acct.charged with
  | .usage c => s.acct.penalty.set c (s.penaltyNow c)
  | _ => s.acct.penalty

/-- The accountant closes the running charge: the microseconds up to now go to the account being charged, and
a new charge on the same account begins now (R5, R8). -/
def State.closeCharge (s : State) : State :=
  { s with acct := { s.acct with
      usage := ⟨s.usageNow .nr, s.usageNow .sr, s.usageNow .ar⟩
      guardTime := s.guardNow
      idleTime := s.idleNow
      penalty := s.chargedPenalty
      chargeStart := s.clock } }

/-- The arbiter enters a state and reports it to the accountant, which begins a new running charge when the
state calls for a different account (R5, R110). -/
def State.setMode (s : State) (m : ArbiterMode) : State :=
  if accountOf m = s.acct.charged then { s with arb := { s.arb with mode := m } }
  else
    { s.closeCharge with
      acct := { s.closeCharge.acct with charged := accountOf m }
      arb := { s.arb with mode := m } }

/-- The accountant counts a preemption (R7). -/
def State.countPreemption (s : State) : State :=
  { s with acct := { s.acct with preemptions := raise16 s.acct.preemptions } }

/-- The accountant counts a miss (R7). -/
def State.countMiss (s : State) : State :=
  { s with acct := { s.acct with misses := raise16 s.acct.misses } }

/-- The accountant counts an overstay (R7). -/
def State.countOverstay (s : State) : State :=
  { s with acct := { s.acct with overstays := raise16 s.acct.overstays } }

/-! ## Per-client records -/

/-- The supervisor's record of a client, changed. -/
def State.onSup (s : State) (c : Client) (f : Supervision → Supervision) : State :=
  { s with sup := s.sup.set c (f (s.sup.get c)) }

/-- A client's live claim record, changed. -/
def State.onLive (s : State) (c : Client) (f : LiveClaim → LiveClaim) : State :=
  { s with live := s.live.set c (f (s.live.get c)) }

/-- Whether the client is OPENING or ACTIVE (R24). -/
def State.admitted (s : State) (c : Client) : Bool :=
  match (s.sup.get c).state with
  | .opening => true
  | .active => true
  | _ => false

/-- The presence deadline of the opening window, none while supervision is off (R25, R34). -/
def State.openingDeadline (s : State) (c : Client) : Option AirTime :=
  if (s.policy.clients.get c).presence = 0 then none
  else some (after s.clock Config.openingWindow)

/-- The presence deadline of the regular window, none while supervision is off (R29, R30). -/
def State.regularDeadline (s : State) (c : Client) : Option AirTime :=
  if (s.policy.clients.get c).presence = 0 then none
  else some (after s.clock ((s.policy.clients.get c).presence * Config.presenceUnit))

/-! ## The flow table -/

/-- The effective class: the pinned class when present, otherwise the requested class (R42). -/
def effectiveClass (f : Flow) : FlowClass := f.pinned.getD f.requested

/-- The flow in a slot. -/
def State.flowAt (s : State) (slot : Nat) : Option Flow := s.flows.find? (·.slot == slot)

/-- The flow a client names by a local handle; 0, a handle above 255 or an unopened one names none (R42, R143). -/
def State.flowNamed (s : State) (c : Client) (handle : Nat) : Option Flow :=
  s.flows.find? fun f => f.owner == c && f.handle == handle

/-- The number of flows a client owns (R43). -/
def State.flowCount (s : State) (c : Client) : Nat := s.flows.countP (·.owner == c)

/-- The lowest-numbered free slot (R43). -/
def State.freeSlot (s : State) : Option Nat :=
  (List.range Config.flowSlots).find? fun k => !(s.flows.any (·.slot == k))

/-- The class table row of the flow in a slot (R47). -/
def State.rowOfSlot (s : State) (slot : Nat) : Option ClassRow :=
  (s.flowAt slot).map fun f => s.policy.classes.row (effectiveClass f)

/-- The record in a slot, changed in place. -/
def onSlot (slot : Nat) (f : Flow → Flow) (fs : List Flow) : List Flow :=
  fs.map fun x => if x.slot = slot then f x else x

/-- The flow in a slot, changed in place. -/
def State.onFlow (s : State) (slot : Nat) (f : Flow → Flow) : State :=
  { s with flows := onSlot slot f s.flows }

/-- A claim of the flow becomes holding: the streak is 0, Grants rises by 1 (R54, R55). -/
def Flow.won (f : Flow) : Flow := { f with streak := 0, grants := raise16 f.grants }

/-- A holding claim of the flow is cut: the streak and Cuts rise by 1 (R53, R55). -/
def Flow.cut (f : Flow) : Flow := { f with streak := raiseStreak f.streak, cuts := raise16 f.cuts }

/-- An occurrence of the flow is missed: the streak and Missed rise by 1 (R53, R55). -/
def Flow.missedOne (f : Flow) : Flow :=
  { f with streak := raiseStreak f.streak, missed := raise16 f.missed }

/-- An occurrence of the flow is served: Served rises by 1 (R55). -/
def Flow.servedOne (f : Flow) : Flow := { f with served := raise16 f.served }

/-- The flow's live claim reaches its hold limit: Overstays rises by 1 (R55). -/
def Flow.overstayed (f : Flow) : Flow := { f with overstays := raise16 f.overstays }

/-- A full aging interval of the flow's waiting live claim: the streak rises by 1 (R53). -/
def Flow.aged (f : Flow) : Flow := { f with streak := raiseStreak f.streak }

/-- A record put into the table at its place by slot. -/
def insertFlow (x : Flow) : List Flow → List Flow
  | [] => [x]
  | y :: ys => if x.slot < y.slot then x :: y :: ys else y :: insertFlow x ys

/-! ## The air plan -/

/-- Whether an entry is on the claim board, waiting (R84). -/
def Entry.isDue (e : Entry) : Bool := e.status == .due

/-- Whether an entry is on the claim board, holding (R84). -/
def Entry.isHolding (e : Entry) : Bool :=
  match e.status with
  | .holding _ => true
  | _ => false

/-- Whether an entry is SUSPENDED. -/
def Entry.isSuspended (e : Entry) : Bool :=
  match e.status with
  | .suspended _ => true
  | _ => false

/-- The entry of a number. -/
def State.entryAt (s : State) (n : Nat) : Option Entry := s.plan.find? (·.number == n)

/-- The entry a client names by number; a free number or another client's entry names none (R75, R77, R81). -/
def State.entryNamed (s : State) (c : Client) (n : Nat) : Option Entry :=
  (s.entryAt n).filter fun e => e.owner == c

/-- The number of entries a client owns (R59). -/
def State.entryCount (s : State) (c : Client) : Nat := s.plan.countP (·.owner == c)

/-- The number of entries of a flow (R56). -/
def State.entriesOfFlow (s : State) (slot : Nat) : Nat := s.plan.countP (·.flow == slot)

/-- The lowest-numbered free entry number (R59). -/
def State.freeEntry (s : State) : Option Nat :=
  (List.range Config.planEntries).find? fun k => !(s.plan.any (·.number == k))

/-- The planned load of some entries: the sum of their load figures (R60). -/
def loadOf (es : List Entry) : Nat := (es.map (·.load)).sum

/-- A client's planned load, its entries in every state included (R60). -/
def State.plannedLoad (s : State) (c : Client) : Nat := loadOf (s.plan.filter (·.owner == c))

/-- The total planned load (R60). -/
def State.totalLoad (s : State) : Nat := loadOf s.plan

/-- The entry of a number changed, or removed where `f` gives none. -/
def onNumber (n : Nat) (f : Entry → Option Entry) (es : List Entry) : List Entry :=
  es.filterMap fun e => if e.number = n then f e else some e

/-- The entry of a number, changed in place or removed. -/
def State.onEntry (s : State) (n : Nat) (f : Entry → Option Entry) : State :=
  { s with plan := onNumber n f s.plan }

/-- An entry put into the plan at its place by number. -/
def insertEntry (x : Entry) : List Entry → List Entry
  | [] => [x]
  | y :: ys => if x.number < y.number then x :: y :: ys else y :: insertEntry x ys

/-- The miss deadline of a DUE entry: nominal start + slide + 1 (R68). -/
def Entry.missDeadline (e : Entry) : AirTime := after e.start (e.slide + 1)

/-- The end of a one-shot's window: nominal start + slide (R34, R79). -/
def Entry.windowEnd (e : Entry) : AirTime := after e.start e.slide

/-- The occurrence end of an occurrence granted at `g` (R69). -/
def Entry.occurrenceEnd (e : Entry) (g : AirTime) : AirTime :=
  earlierOf (after g e.duration) (after e.start (e.slide + e.duration))

/-- The air time an offset away. -/
def offsetBy (t : AirTime) (o : BitVec 13) : AirTime := t + o.signExtend 32

/-- The air time, or the present one if it has been reached (R77, R78). -/
def clampReached (now t : AirTime) : AirTime := if reached now t then now else t

/-- The nominal start after an advance: one period on, then the pending retime offset (R73, R78). -/
def Entry.advancedStart (e : Entry) (now : AirTime) : AirTime :=
  match e.pendingOffset with
  | none => after e.start e.period
  | some o => clampReached now (offsetBy (after e.start e.period) o)

/-- The advance at the end of an occurrence: retirement (`none`) when the count remaining is 1, otherwise
SCHEDULED at its next nominal start with the count lowered, 0 staying unlimited (R73). -/
def Entry.advance (e : Entry) (now : AirTime) : Option Entry :=
  if e.count = 1 then none
  else some { e with
    start := e.advancedStart now
    count := e.count - 1
    status := .scheduled
    pendingOffset := none }

/-- An entry whose nominal start has been reached while SCHEDULED is DUE (R68). -/
def Entry.woken (e : Entry) (now : AirTime) : Entry :=
  if e.status = .scheduled ∧ reached now e.start then { e with status := .due } else e

/-- The smallest number of periods that takes an air time past the present one (R34, R79). -/
def periodsPast (now t : AirTime) (period : Nat) : Nat :=
  if later t now then 0 else (now - t).toNat / period + 1

/-- The entry as its client enters SILENT (R32, R79): a periodic entry steps at once until its nominal start is
later than the present air time; a one-shot whose window has ended is marked expired at once (R2). -/
def Entry.suspend (e : Entry) (now : AirTime) : Entry :=
  if e.period = 0 then { e with status := .suspended (reached now e.windowEnd) }
  else { e with
    start := after e.start (periodsPast now e.start e.period * e.period)
    status := .suspended false }

/-- The entry as its client is revived (R34): none when it is a one-shot whose window has passed. -/
def Entry.revive (e : Entry) (now : AirTime) : Option Entry :=
  match e.status with
  | .suspended expired =>
    if e.period = 0 then
      if expired || reached now e.windowEnd then none else some { e with status := .scheduled }
    else some { e with
      start := after e.start (periodsPast now e.start e.period * e.period)
      status := .scheduled }
  | _ => some e

end Sys2Proof.Machine
end

