-- ==== Sys2Proof/Machine/Arbiter.lean ====
section
/-!
DEFINITION. The grant arbiter (chapter 5): the claim board as a view of the claims, weights, the pick, the hand-off,
grants and joins, displacement and preemption, and the arbiter's answer to each report it takes.
-/

namespace Sys2Proof.Machine

/-! ## The claim board (R84, R85) -/

/-- The slots of the client's DUE occurrences. -/
def State.dueSlots (s : State) (c : Client) : List Nat :=
  (s.plan.filter fun e => e.owner == c && e.isDue).map (·.flow)

/-- The slots of the client's HOLDING occurrences. -/
def State.heldSlots (s : State) (c : Client) : List Nat :=
  (s.plan.filter fun e => e.owner == c && e.isHolding).map (·.flow)

/-- The client's WAITING live claim: the slot of the live binding and the urgency bit. -/
def State.liveWaiting (s : State) (c : Client) : Option (Nat × Bool) :=
  match (s.live.get c).state with
  | .waiting u _ => (s.live.get c).binding.map fun k => (k, u)
  | _ => none

/-- The client's HOLDING live claim: the slot of the live binding and the urgency bit. -/
def State.liveHolding (s : State) (c : Client) : Option (Nat × Bool) :=
  match (s.live.get c).state with
  | .holding u _ _ => (s.live.get c).binding.map fun k => (k, u)
  | _ => none

/-- The client's waiting claims, each as the slot of its flow and its urgency bit (clear for an occurrence). -/
def State.waitingClaims (s : State) (c : Client) : List (Nat × Bool) :=
  (s.liveWaiting c).toList ++ (s.dueSlots c).map fun k => (k, false)

/-- The client's holding claims, in the same form. -/
def State.holdingClaims (s : State) (c : Client) : List (Nat × Bool) :=
  (s.liveHolding c).toList ++ (s.heldSlots c).map fun k => (k, false)

/-- Whether a flow has a claim on the board, waiting or holding. -/
def State.flowClaims (s : State) (c : Client) (slot : Nat) : Bool :=
  (s.waitingClaims c).any (·.1 == slot) || (s.holdingClaims c).any (·.1 == slot)

/-- Whether a flow has a waiting claim on the board. -/
def State.flowWaits (s : State) (c : Client) (slot : Nat) : Bool :=
  (s.waitingClaims c).any (·.1 == slot)

/-! ## Weights (R87, R88) -/

/-- The weight of a claim: 8 × B + A × D + 8 × u − 2 × P, and 0 below 0 (R87). -/
def claimWeight (row : ClassRow) (streak : Nat) (urgent : Bool) (penalty : Nat) : Nat :=
  8 * row.base + row.step * streak + (if urgent && row.urgent then 8 else 0) - 2 * penalty

/-- The weight of a claim of the client for the flow in a slot, from the values now in force (R87). -/
def State.weightOf (s : State) (c : Client) (claim : Nat × Bool) : Nat :=
  match s.flowAt claim.1 with
  | none => 0
  | some f =>
    claimWeight (s.policy.classes.row (effectiveClass f)) f.streak claim.2 (s.acct.penalty.get c)

/-- The largest of some weights, none of an empty list. -/
def largest (ws : List Nat) : Option Nat :=
  ws.foldl (fun m w => some (max w (m.getD 0))) none

/-- The client's waiting weight: the largest among its waiting claims (R88). -/
def State.waitingWeight (s : State) (c : Client) : Option Nat :=
  largest ((s.waitingClaims c).map (s.weightOf c))

/-- The client's holding weight: the largest among its holding claims (R88). -/
def State.holdingWeight (s : State) (c : Client) : Option Nat :=
  largest ((s.holdingClaims c).map (s.weightOf c))

/-- The client's weight in its standing, none for an absent client (R88, R111). -/
def State.clientWeight (s : State) (c : Client) : Option Nat :=
  if s.arb.mode = .held c then s.holdingWeight c else s.waitingWeight c

/-! ## The pick (R93) -/

/-- Whether a client with waiting weight `w` comes before the best so far: the larger weight, and among equals
the lower tie rank (R93). -/
def State.outranks (s : State) (c : Client) (w : Nat) (best : Option (Client × Nat)) : Bool :=
  match best with
  | none => true
  | some (b, wb) =>
    decide (wb < w) ||
      (decide (w = wb) &&
        decide ((s.policy.clients.get c).rank < (s.policy.clients.get b).rank))

/-- The pick among the waiting clients that `ok` admits, with its waiting weight (R93). -/
def State.pick (s : State) (ok : Client → Bool) : Option (Client × Nat) :=
  clientList.foldl
    (fun best c =>
      match s.waitingWeight c with
      | none => best
      | some w => if ok c && s.outranks c w best then some (c, w) else best)
    none

/-! ## Switch and guard (R90, R91) -/

/-- The running guard's deadline: one runs in PARKING and SETTLING only (R89). -/
def ArbiterMode.guardEnd : ArbiterMode → Option AirTime
  | .parking g => some g
  | .settling _ g => some g
  | _ => none

/-- The holder, in HELD only (R89). -/
def ArbiterMode.holder : ArbiterMode → Option Client
  | .held c => some c
  | _ => none

/-- The next holder, in SETTLING only (R89). -/
def ArbiterMode.next : ArbiterMode → Option Client
  | .settling c _ => some c
  | _ => none

/-- The deadline of a guard that starts now with the G in force (R91). -/
def State.newGuard (s : State) : AirTime := after s.clock s.policy.guardTime

/-- The switch position, which the ANT outputs show (R90). -/
def State.setPosition (s : State) (c : Client) : State := { s with arb := { s.arb with position := c } }

/-- The switch moves to a client's position and a new guard starts: SETTLING with it as next holder (R94, R100,
R102). -/
def State.settleToward (s : State) (c : Client) : State :=
  (s.setMode (.settling c s.newGuard)).setPosition c

/-- The switch moves to the default position and a new guard starts: PARKING (R94, R105). -/
def State.moveToDefault (s : State) : State :=
  (s.setMode (.parking s.newGuard)).setPosition s.policy.defaultPos

/-- The hand-off with nobody waiting: the arbiter parks (R94). -/
def State.park (s : State) : State :=
  if s.arb.position = s.policy.defaultPos then
    match s.arb.mode.guardEnd with
    | none => s.setMode .free
    | some g => s.setMode (.parking g)
  else s.moveToDefault

/-! ## Grants and joins (R96) -/

/-- The slots whose claims of the client turn holding, one for each claim. -/
def State.waitingSlots (s : State) (c : Client) : List Nat := (s.waitingClaims c).map (·.1)

/-- A DUE occurrence of the client turns holding (R69). -/
def Entry.grantTo (c : Client) (now : AirTime) (e : Entry) : Entry :=
  if e.owner = c ∧ e.status = .due then { e with status := .holding now } else e

/-- The live hold limit of the flow in a slot (R118). -/
def State.holdLimitOf (s : State) (slot : Nat) : Nat :=
  match s.rowOfSlot slot with
  | none => 0
  | some r => r.holdLimit

/-- A WAITING live claim turns holding, its hold deadline set by the hold limit of the bound flow's effective
class (R118). -/
def State.grantLive (s : State) (l : LiveClaim) : LiveClaim :=
  match l.state, l.binding with
  | .waiting u _, some k =>
    { l with state := .holding u s.clock (after s.clock (s.holdLimitOf k)) }
  | _, _ => l

/-- Every waiting claim of the client turns holding, together; for each, its flow's streak is set to 0 and
Grants rises by 1 (R96, R54, R55). A join is the same act for the one waiting claim of the holder. -/
def State.turnHolding (s : State) (c : Client) : State :=
  { s with
    flows := (s.waitingSlots c).foldl (fun fs k => onSlot k Flow.won fs) s.flows
    plan := s.plan.map (Entry.grantTo c s.clock)
    live := s.live.set c (s.grantLive (s.live.get c)) }

/-- The grant (R96): HELD with the client as holder, and all its waiting claims holding. -/
def State.grant (s : State) (c : Client) : State := (s.setMode (.held c)).turnHolding c

/-- The hand-off (R94): the arbiter chooses anew while every grant line is low. -/
def State.handOff (s : State) : State :=
  match s.pick (fun _ => true) with
  | none => s.park
  | some (c, _) =>
    if s.arb.position = c then
      match s.arb.mode.guardEnd with
      | none => s.grant c
      | some g => s.setMode (.settling c g)
    else s.settleToward c

/-! ## Displacement and preemption (R100 to R102) -/

/-- The displacement check, made in SETTLING (R100). -/
def State.displacementCheck (s : State) : State :=
  match s.arb.mode with
  | .settling n _ =>
    match s.pick (fun c => c != n) with
    | some (d, w) =>
      if (s.waitingWeight n).getD 0 + s.policy.margin ≤ w then s.settleToward d else s
    | none => s
  | _ => s

/-- Whether a holding claim of the client is of a class that may not be preempted: the shield (R101). -/
def State.shielded (s : State) (c : Client) : Bool :=
  (s.holdingClaims c).any fun claim =>
    match s.rowOfSlot claim.1 with
    | none => false
    | some r => !r.preemptible

/-- A HOLDING occurrence of the client is cut: its entry advances, and is DUE at once if its new start has been
reached (R72, R73). -/
def Entry.cutFor (c : Client) (now : AirTime) (e : Entry) : Option Entry :=
  if e.owner = c ∧ e.isHolding then (e.advance now).map (·.woken now) else some e

/-- Whether the cut retires an entry of the client (R73). -/
def State.cutRetires (s : State) (c : Client) : Bool :=
  s.plan.any fun e => e.owner == c && e.isHolding && e.count == 1

/-- A HOLDING live claim returns to WAITING with a new aging deadline, its urgency bit kept (R124). -/
def State.cutLive (s : State) (l : LiveClaim) : LiveClaim :=
  match l.state with
  | .holding u _ _ => { l with state := .waiting u (after s.clock s.policy.agingInterval) }
  | _ => l

/-- The holdings of a preempted client are cut: each flow's streak and Cuts rise once for each claim of it, every
HOLDING entry advances, the live claim returns to WAITING, and CUT is given, with ENDED where an entry
retires (R72, R73, R102, R124). -/
def State.cutHoldings (s : State) (c : Client) : State :=
  let t : State := { s with
    flows := ((s.holdingClaims c).map (·.1)).foldl (fun fs k => onSlot k Flow.cut fs) s.flows
    plan := s.plan.filterMap (Entry.cutFor c s.clock)
    live := s.live.set c (s.cutLive (s.live.get c)) }
  (t.giveNotice c .cut).giveNoticeIf (s.cutRetires c) c .ended

/-- The preemption of `h` by the challenger `d`, one act, followed by the displacement check when the former
holder stands as waiting after it (R102). -/
def State.preempt (s : State) (h d : Client) : State :=
  let t := ((s.cutHoldings h).countPreemption).settleToward d
  if (t.waitingClaims h).isEmpty then t else t.displacementCheck

/-- The preemption check, made in HELD (R101). -/
def State.preemptionCheck (s : State) : State :=
  match s.arb.mode with
  | .held h =>
    match s.pick (fun c => c != h) with
    | some (d, w) =>
      if (s.holdingWeight h).getD 0 + s.policy.margin ≤ w ∧ s.shielded h = false then s.preempt h d
      else s
    | none => s
  | _ => s

/-! ## The arbiter's answer to what it takes -/

/-- The end of the guard: the grant of the next holder in SETTLING (R96), FREE in PARKING (R97). -/
def State.endGuard (s : State) : State :=
  match s.arb.mode with
  | .settling c _ => s.grant c
  | .parking _ => s.setMode .free
  | _ => s

/-- Whether the running guard, if any, has reached its deadline (R2). -/
def State.guardReached (s : State) : Bool :=
  match s.arb.mode.guardEnd with
  | none => false
  | some g => reached s.clock g

/-- Whether an answer of the arbiter, from `before` to `t`, has started a guard: the switch has moved, or the guard
deadline is a new one. A guard that the answer keeps runs on with its deadline and position unchanged (R91, R94). -/
def State.guardStarted (before t : State) : Bool :=
  t.arb.position != before.arb.position || t.arb.mode.guardEnd != before.arb.mode.guardEnd

/-- A guard of length 0 ends at the moment it starts (R91): where an answer of the arbiter started a guard with G 0, the
guard's end belongs to the same moment, taken after the checks of that answer (log entry 9). A longer guard that the
answer keeps, its deadline reached and its end not yet taken, is not passed: its end is an event of its own, before or
after the answer (R96, R97). -/
def State.passZeroGuard (before t : State) : State :=
  if t.policy.guardTime = 0 ∧ before.guardStarted t ∧ t.guardReached then t.endGuard else t

/-- A claim of the client has arrived on the board, waiting (R95). -/
def State.claimArrived (s : State) (c : Client) : State :=
  s.passZeroGuard <|
    match s.arb.mode with
    | .free => s.handOff
    | .parking _ => s.handOff
    | .settling n _ => if n = c then s else s.displacementCheck
    | .held h => if h = c then s.turnHolding c else s.preemptionCheck

/-- Whether the client's waiting weight has fallen since `before` (R99). -/
def State.weightFell (before s : State) (c : Client) : Bool :=
  decide ((s.waitingWeight c).getD 0 < (before.waitingWeight c).getD 0)

/-- One or more claims of the client have left the board since `before`. For the holder, a holding claim has
ended: the check while others remain, otherwise a hand-off (R98, R107). For the next holder, a hand-off when
none is left, otherwise the displacement check if its weight has fallen (R99, R107). Any other client leaves
the contest or goes on waiting. -/
def State.claimsLeft (before s : State) (c : Client) : State :=
  s.passZeroGuard <|
    match s.arb.mode with
    | .held h =>
      if h = c then
        if (s.holdingClaims c).isEmpty then s.handOff else s.preemptionCheck
      else s
    | .settling n _ =>
      if n = c then
        if (s.waitingClaims c).isEmpty then s.handOff
        else if before.weightFell s c then s.displacementCheck else s
      else s
    | _ => s

/-- The check of the arbiter's state: preemption in HELD, displacement in SETTLING (R103). -/
def State.stateCheck (s : State) : State :=
  s.passZeroGuard <|
    match s.arb.mode with
    | .held _ => s.preemptionCheck
    | .settling _ _ => s.displacementCheck
    | _ => s

/-- The check where the condition holds. -/
def State.stateCheckIf (s : State) (p : Bool) : State := if p then s.stateCheck else s

/-- Whether the client is waiting, as waiting client or next holder (R85). -/
def State.isWaiting (s : State) (c : Client) : Bool := !(s.waitingClaims c).isEmpty

/-- Whether the client's GNT line is high (R92). -/
def State.gnt (s : State) (c : Client) : Bool := s.resetn && s.arb.mode == .held c

/-- The two-bit number on ANT1 and ANT0: the switch position (R90). -/
def State.ant (s : State) : Nat := clientIndex s.arb.position

end Sys2Proof.Machine
end

