-- ==== Sys2Proof/Machine/Plan.lean ====
section
/-!
DEFINITION. The air plan's shared operations (chapter 4): the resolution, trim and admission of a posting, the
CONTESTED test, entries that fall due, are removed or advance, and the occurrence order.
-/

namespace Sys2Proof.Machine

/-! ## Posting (R61 to R67) -/

/-- The load figure: ceil(duration × 1024 / period) for a periodic entry, 0 for a one-shot (R60). -/
def loadFigure (duration period : Nat) : Nat :=
  if period = 0 then 0 else (duration * 1024 + period - 1) / period

/-- The shape step of a POST (R62). -/
def shapeOk (guardTime duration period count : Nat) : Bool :=
  decide (50 ≤ duration) && decide (duration ≤ 20000) &&
    (decide (period = 0) || decide (1000 ≤ period) && decide (period ≤ 1000000)) &&
    decide (count ≤ 65535) &&
    (decide (period = 0) || decide (duration + guardTime ≤ period))

/-- The largest slide a new entry may have (R63). -/
def slideLimit (guardTime duration period : Nat) : Nat :=
  if period = 0 then 100000 else min 100000 (period - duration - guardTime)

/-- What the start step makes of a START: late beyond its slide, or a nominal start with the ADVANCED flag (R64). -/
inductive StartOutcome where
  | late
  | at (start : AirTime) (advanced : Bool)
  deriving DecidableEq, Repr

/-- The start step (R64): START resolved against the full air time `t`, with the trimmed slide. -/
def resolveStart (t : AirTime) (start : Value) (slide period : Nat) : StartOutcome :=
  let delta := (start - low24 t).toNat
  if delta < 2 ^ 23 then .at (after t delta) false
  else
    let l := 2 ^ 24 - delta
    if l ≤ slide then .at (t - BitVec.ofNat 32 l) false
    else if period = 0 then .late
    else .at (t - BitVec.ofNat 32 l + BitVec.ofNat 32 ((l + period - 1) / period * period)) true

/-- The load step (R65): both sums within the cap and the whole of the air, and no entry at all, not even a one-shot
of load 0, under a cap of 0 (the last sentence of R65). -/
def State.loadAdmits (s : State) (c : Client) (f : Nat) : Bool :=
  decide ((s.policy.clients.get c).cap ≠ 0) &&
    decide (s.plannedLoad c + f ≤ (s.policy.clients.get c).cap) &&
    decide (s.totalLoad + f ≤ Config.fullLoad)

/-- The base priority B of the effective class of a flow (R47). -/
def State.baseOf (s : State) (slot : Nat) : Nat :=
  match s.rowOfSlot slot with
  | none => 0
  | some r => r.base

/-- Two intervals [a, a + m) and [b, b + n) overlap: each begins earlier than the other ends (R67). -/
def overlap (a : AirTime) (m : Nat) (b : AirTime) (n : Nat) : Bool :=
  later (after b n) a && later (after a m) b

/-- The CONTESTED test of a new entry against the plan as it stands (R67). -/
def State.contested (s : State) (x : Entry) : Bool :=
  s.plan.any fun e =>
    e.owner != x.owner && !e.isSuspended && decide (s.baseOf x.flow ≤ s.baseOf e.flow) &&
      overlap x.start x.duration e.start (e.duration + e.slide)

/-- The new entry of a POST that has passed its checks (R62, R63, R66). -/
def postedEntry (number : Nat) (c : Client) (slot : Nat) (d : Draft) (slide : Nat) (start : AirTime) :
    Entry where
  number := number
  owner := c
  flow := slot
  start := start
  duration := d.duration.toNat
  period := d.period.toNat
  count := if d.period.toNat = 0 then 1 else d.count.toNat
  slide := slide
  load := loadFigure d.duration.toNat d.period.toNat
  status := .scheduled
  pendingOffset := none

/-- The DATA of a POST's reply: entry number, TRIMMED bit 8, ADVANCED bit 9, DUE-NOW bit 10 (R143). -/
def postData (number : Nat) (trimmed advanced dueNow : Bool) : Value :=
  BitVec.ofNat 24
    (number + (if trimmed then 256 else 0) + (if advanced then 512 else 0) + if dueNow then 1024 else 0)

/-! ## Entries that fall due, leave or advance -/

/-- A SCHEDULED entry whose nominal start has been reached falls DUE: its occurrence is added to its client's
planned claim, which the arbiter takes as an arrival, a join if the client holds the air (R68, R95, R96). -/
def State.wake (s : State) (n : Nat) : State :=
  match s.entryAt n with
  | none => s
  | some e =>
    if e.status = .scheduled ∧ reached s.clock e.start then
      (s.onEntry n fun x => some { x with status := .due }).claimArrived e.owner
    else s

/-- The arbiter's answer when the entry, as it stood before, has left the claim board: nothing for an entry that
was not on it (R74). -/
def State.afterRemoval (before s : State) (e : Entry) : State :=
  if e.isDue || e.isHolding then before.claimsLeft s e.owner else s

/-- Removal of an entry, its owner given ENDED where the cause says so (R74). -/
def State.removeEntry (s : State) (e : Entry) (ended : Bool) : State :=
  s.afterRemoval ((s.onEntry e.number fun _ => none).giveNoticeIf ended e.owner .ended) e

/-- The entry advances; ENDED is given when it retires (R73). -/
def State.advanceEntry (s : State) (e : Entry) : State :=
  (s.onEntry e.number fun x => x.advance s.clock).giveNoticeIf (decide (e.count = 1)) e.owner .ended

/-! ## Occurrence order (R80) -/

/-- Whether an entry is a one-shot marked expired (R79). -/
def Entry.isExpired (e : Entry) : Bool :=
  match e.status with
  | .suspended x => x
  | _ => false

/-- Whether entry `a` stands before entry `b` in the occurrence order (R80). -/
def State.before (s : State) (a b : Entry) : Bool :=
  if a.isExpired then !b.isExpired || decide (a.number < b.number)
  else if b.isExpired then false
  else if a.start ≠ b.start then decide ((a.start - s.clock).toInt < (b.start - s.clock).toInt)
  else if s.baseOf a.flow ≠ s.baseOf b.flow then decide (s.baseOf b.flow < s.baseOf a.flow)
  else decide (a.number < b.number)

/-- An entry put into an ordered list at its place. -/
def State.insertOrdered (s : State) (x : Entry) : List Entry → List Entry
  | [] => [x]
  | y :: ys => if s.before x y then x :: y :: ys else y :: s.insertOrdered x ys

/-- The entries in the occurrence order (R80). -/
def State.planOrder (s : State) : List Entry := s.plan.foldr s.insertOrdered []

end Sys2Proof.Machine
end

