-- ==== Sys2Proof/Machine/Live.lean ====
section
/-!
DEFINITION. The live request unit's shared operations (chapter 6): the hold expiry, the hold deadline kept in step
with the class, a live claim's removal, and the effects of a change of effective class (R48).
-/

namespace Sys2Proof.Machine

/-- The live claim record back in IDLE, its binding kept (R32, R122, R126). -/
def LiveClaim.toIdle (l : LiveClaim) : LiveClaim := { l with state := .idle }

/-- The live claim record back in IDLE with the binding cleared (R36, R45, R126). -/
def LiveClaim.unbound (l : LiveClaim) : LiveClaim := { l with state := .idle, binding := none }

/-- Whether the live claim is on the claim board (R84). -/
def LiveClaim.onBoard (l : LiveClaim) : Bool :=
  match l.state with
  | .waiting _ _ => true
  | .holding _ _ _ => true
  | _ => false

/-- Where a client has a live binding, its flow changed. -/
def State.onBoundFlow (s : State) (c : Client) (f : Flow → Flow) : State :=
  match (s.live.get c).binding with
  | none => s
  | some k => s.onFlow k f

/-- A HOLDING live claim reaches its hold limit (R120): SPENT, the Overstays counter, the window's overstay count
and both OVERSTAY notices, and the arbiter's answer to the end of a holding claim. -/
def State.expireHold (s : State) (c : Client) : State :=
  s.claimsLeft
    (((((s.onLive c fun l => { l with state := .spent }).onBoundFlow c Flow.overstayed).countOverstay).giveNotice
      c .overstay).setPortNotice .overstay)
    c

/-- The hold deadline of the client's HOLDING live claim is brought to hold start plus the hold limit in force,
and an expiry it has then reached is taken at once (R119). -/
def State.refreshHold (s : State) (c : Client) : State :=
  match (s.live.get c).state, (s.live.get c).binding with
  | .holding u start _, some k =>
    let t := s.onLive c fun l => { l with state := .holding u start (after start (s.holdLimitOf k)) }
    if reached s.clock (after start (s.holdLimitOf k)) then t.expireHold c else t
  | _, _ => s

/-- Where the client's HOLDING live claim is bound to a flow of the class, its hold deadline is refreshed (R119,
R159). -/
def State.refreshHoldOfClass (s : State) (k : FlowClass) (c : Client) : State :=
  match (s.live.get c).binding with
  | none => s
  | some slot =>
    match s.flowAt slot with
    | none => s
    | some f => if effectiveClass f = k then s.refreshHold c else s

/-- A SET CLASS reaches every HOLDING live claim of the class (R119, R159). -/
def State.refreshHolds (s : State) (k : FlowClass) : State :=
  clientList.foldl (fun t c => t.refreshHoldOfClass k c) s

/-- The effects of a change of the effective class of the flow `f` on the other blocks, the new class standing in
the table already (R48): the hold deadline of the owner's live claim bound to it, then the arbiter's check. -/
def State.classChanged (s : State) (f : Flow) : State :=
  (if (s.live.get f.owner).binding = some f.slot then s.refreshHold f.owner else s).stateCheck

/-- The flow's record `f` is replaced by `g`, with the effects of R48 where the effective class differs. -/
def State.reclassed (s : State) (f g : Flow) : State :=
  if effectiveClass g = effectiveClass f then s.onFlow f.slot fun _ => g
  else (s.onFlow f.slot fun _ => g).classChanged f

end Sys2Proof.Machine
end

