-- ==== Sys2Proof/Machine/Channel.lean ====
section
/-!
DEFINITION. The channel map unit (chapter 7): covered band, marking, restoration, recomputation and MASK notices.
-/

namespace Sys2Proof.Machine

/-- The lower bound of the covered band, in MHz (R130); the centre is 2412 MHz or more, so it is never below 0. -/
def bandLow (n : ChannelNote) (g : Nat) : Nat := n.centre - widthMHz n.width / 2 - g

/-- The upper bound of the covered band, in MHz (R130). -/
def bandHigh (n : ChannelNote) (g : Nat) : Nat := n.centre + widthMHz n.width / 2 + g

/-- The centre of SR channel k, in MHz (R131). -/
def srCentre (k : Nat) : Nat := 2402 + k

/-- The centre of AR channel m, in MHz (R132). -/
def arCentre (m : Nat) : Nat := 2405 + 5 * m

/-- The SR channels avoided before restoration (R131). -/
def srMarked (n : ChannelNote) (g : Nat) : List Nat :=
  (List.range Config.srChannels).filter fun k =>
    decide (bandLow n g ≤ srCentre k) && decide (srCentre k ≤ bandHigh n g)

/-- The AR channels avoided before restoration: 2 MHz wide, edges included (R132). -/
def arMarked (n : ChannelNote) (g : Nat) : List Nat :=
  (List.range Config.arChannels).filter fun m =>
    decide (bandLow n g ≤ arCentre m + 1) && decide (arCentre m ≤ bandHigh n g + 1)

/-- The distance of a frequency from Fc (R133). -/
def distance (f fc : Nat) : Nat := (f - fc) + (fc - f)

/-- The avoided channel restored next: the farthest from Fc, of two at equal distance the one of lower frequency
(R133). The list is in rising order of frequency. -/
def farthest (centre : Nat → Nat) (fc : Nat) : List Nat → Option Nat
  | [] => none
  | k :: ks =>
    match farthest centre fc ks with
    | none => some k
    | some m => if distance (centre m) fc ≤ distance (centre k) fc then some k else some m

/-- The avoided channels left after `count` restorations, one at a time (R133). -/
def restore (centre : Nat → Nat) (fc : Nat) : Nat → List Nat → List Nat
  | 0, ks => ks
  | count + 1, ks =>
    match farthest centre fc ks with
    | none => ks
    | some k => restore centre fc count (ks.erase k)

/-- How many of the avoided channels are to be restored, of `total` channels with `minimum` to be left usable
(R133). -/
def shortfall (total minimum : Nat) (avoided : List Nat) : Nat := minimum - (total - avoided.length)

/-- The channel map unit with both masks recomputed from a note and a channel guard (R130 to R134). -/
def computeChannel (note : Option ChannelNote) (g : Nat) : ChannelUnit :=
  match note with
  | none => .clear
  | some n =>
    { note := some n
      srAvoided := restore srCentre n.centre
        (shortfall Config.srChannels Config.srMinimum (srMarked n g)) (srMarked n g)
      arAvoided := restore arCentre n.centre
        (shortfall Config.arChannels Config.arMinimum (arMarked n g)) (arMarked n g)
      srRestored := shortfall Config.srChannels Config.srMinimum (srMarked n g)
      arRestored := shortfall Config.arChannels Config.arMinimum (arMarked n g) }

/-- The usable SR channels (R137). -/
def srUsable (u : ChannelUnit) : Nat := Config.srChannels - u.srAvoided.length

/-- The usable AR channels (R137). -/
def arUsable (u : ChannelUnit) : Nat := Config.arChannels - u.arAvoided.length

/-- The recomputation with a note and the g held, and the MASK notices of the masks whose content changed (R134,
R135). -/
def State.recompute (s : State) (note : Option ChannelNote) : State :=
  let u := computeChannel note s.policy.channelGuard
  (({ s with channel := u } : State).giveNoticeIf (u.srAvoided != s.channel.srAvoided) .sr .mask).giveNoticeIf
    (u.arAvoided != s.channel.arAvoided) .ar .mask

/-- What a centre offset and a width report: nothing usable (`none`), not in band, or in band (R129). -/
def noteOf (offset : Nat) (w : Width) : Option (Option ChannelNote) :=
  if offset = 0 then some none
  else if 12 ≤ offset ∧ offset ≤ 84 then some (some ⟨2400 + offset, w⟩)
  else none

/-- The channels `first`, `first` + 1, … of a mask as bits, 1 for avoided, `n` of them (R145, R164). -/
def maskBits (avoided : List Nat) (first n : Nat) : Nat :=
  (List.range n).foldr (fun i acc => (if avoided.contains (first + i) then 1 else 0) + 2 * acc) 0

/-- One part of a mask for a MASK fetch: 24 channels from channel 24 × part, as far as the mask goes; none where
the mask has no such part (R136). -/
def maskPart (avoided : List Nat) (channels part : Nat) : Option Value :=
  if channels ≤ 24 * part then none
  else some (BitVec.ofNat 24 (maskBits avoided (24 * part) (min 24 (channels - 24 * part))))

end Sys2Proof.Machine
end

