-- ==== Sys2Proof/Machine/Supervisor.lean ====
section
/-!
DEFINITION. The client supervisor's shared operations (chapter 2): evidence of presence, silence and its fail-safe,
revival, teardown, and the clients' part of an arbitration restart.
-/

namespace Sys2Proof.Machine

/-- Evidence of presence (R29, R30): a passing frame promotes an OPENING client to ACTIVE and restarts an ACTIVE
client's presence deadline; in DETACHED and SILENT it has no effect. -/
def State.presence (s : State) (c : Client) : State :=
  if s.admitted c then s.onSup c fun v => { v with state := .active, deadline := s.regularDeadline c }
  else s

/-- Entry into SILENT (R31 to R33, R79): the deadline goes, the live claim returns to IDLE with its binding kept,
every entry is suspended, SILENT-x is set, and the arbiter removes the client's claims (R107). -/
def State.silence (s : State) (c : Client) : State :=
  let t : State :=
    ((s.onSup c fun v => { v with state := .silent, deadline := none }).onLive c LiveClaim.toIdle).setPortNotice
      (.silent c)
  s.claimsLeft
    { t with plan := t.plan.map fun e => if e.owner = c then e.suspend s.clock else e } c

/-- The client's entry of a number falls due if its start has been reached, for each number in turn (R34, R68). The
rules give no order among several entries that fall due in one act; the model takes them by rising number: DESIGN
CHOICE, log entry 18. -/
def State.wakeAll (s : State) (ns : List Nat) : State := ns.foldl State.wake s

/-- Revival of a SILENT client (R34): OPENING with the opening window, its suspended entries restored or removed,
ENDED for each removed one-shot, RESTORED, and restored entries whose start has been reached DUE at once. -/
def State.reviveClient (s : State) (c : Client) : State :=
  let own := fun e : Entry => e.owner == c
  let gone := s.plan.any fun e => own e && (e.revive s.clock).isNone
  let t := s.onSup c fun v => { v with state := .opening, deadline := s.openingDeadline c }
  let u : State :=
    { t with plan := t.plan.filterMap fun e => if e.owner = c then e.revive s.clock else some e }
  ((u.giveNoticeIf gone c .ended).giveNotice c .restored).wakeAll ((u.plan.filter own).map (·.number))

/-- Teardown of an attached client, one act (R36): its flows, entries, binding, claims, draft, notices and
deadline go, it is DETACHED, for NR the channel note becomes "not in band", and the arbiter removes its
claims (R107). -/
def State.teardown (s : State) (c : Client) : State :=
  let t : State :=
    ((s.onSup c fun v => { v with state := .detached, deadline := none }).onLive c LiveClaim.unbound).onLink c
      fun l => { l with draft := .initial, notices := 0 }
  let u : State :=
    { t with
      flows := t.flows.filter fun f => f.owner != c
      plan := t.plan.filter fun e => e.owner != c }
  s.claimsLeft (if c = .nr then u.recompute none else u) c

/-- Teardown where the client is attached; a DETACHED client is left as it is (R26, R28, R35). -/
def State.teardownIfAttached (s : State) (c : Client) : State :=
  if (s.sup.get c).state = .detached then s else s.teardown c

/-- The client enters OPENING with a fresh opening window (R25, R26). -/
def State.enterOpening (s : State) (c : Client) : State :=
  s.onSup c fun v => { v with state := .opening, deadline := s.openingDeadline c }

/-- The presence deadline after a change of the presence window from `old` to the value now stored (R37). -/
def State.presenceChanged (s : State) (c : Client) (old : Nat) : State :=
  if s.admitted c = false then s
  else if (s.policy.clients.get c).presence = 0 then s.onSup c fun v => { v with deadline := none }
  else if old = 0 then
    s.onSup c fun v => { v with
      deadline := if v.state = .opening then s.openingDeadline c else s.regularDeadline c }
  else s

end Sys2Proof.Machine
end

