-- ==== Sys2Proof/Machine/Windows.lean ====
section
/-!
DEFINITION. The air accountant's shared operations (chapter 1): the window record, the survey, the window restart and
the accountant's part of an arbitration restart.
-/

namespace Sys2Proof.Machine

/-- The record a rollover makes of the closing window (R9). -/
def State.windowRecord (s : State) : WindowRecord where
  length := s.window
  held := ⟨s.usageNow .nr, s.usageNow .sr, s.usageNow .ar⟩
  guardTime := s.guardNow
  idleTime := s.idleNow
  preemptions := s.acct.preemptions
  misses := s.acct.misses
  overstays := s.acct.overstays

/-- A record added to running sums; the event sums saturate (R18). -/
def SurveySums.add (u : SurveySums) (r : WindowRecord) : SurveySums where
  held := ⟨u.held.nr + r.held.nr, u.held.sr + r.held.sr, u.held.ar + r.held.ar⟩
  guardTime := u.guardTime + r.guardTime
  idleTime := u.idleTime + r.idleTime
  preemptions := add16 u.preemptions r.preemptions
  misses := add16 u.misses r.misses
  overstays := add16 u.overstays r.overstays

/-- Whether a rollover that makes record `r` completes the survey (R19). -/
def Survey.completes (v : Survey) : Bool := v.state == .running && decide (v.k ≤ v.summed + 1)

/-- The survey unit at a rollover, with the record just made (R18, R19). At completion the running sums are set to 0 with
the count of windows; R19 does not say what the sums then hold, and nothing reads them before the next START SURVEY
sets them to 0 (R17, R22): DESIGN CHOICE, log entry 21. -/
def Survey.advance (v : Survey) (r : WindowRecord) : Survey :=
  match v.state with
  | .idle => v
  | .armed => { v with state := .running }
  | .running =>
    if v.completes then
      { v with
        state := .idle
        summed := 0
        sums := .zero
        resultWindows := v.k
        resultLength := r.length
        result := v.sums.add r }
    else { v with summed := v.summed + 1, sums := v.sums.add r }

/-- The survey unit back in IDLE, its sums discarded, K and the result kept (R20, R21). -/
def Survey.toIdle (v : Survey) : Survey := { v with state := .idle, summed := 0, sums := .zero }

/-- The counters of the window cleared and every penalty 0, a new window starting now (R8, R10, R23). -/
def Accountant.freshWindow (a : Accountant) (now : AirTime) : Accountant :=
  { a with
    windowStart := now
    usage := .all 0
    guardTime := 0
    idleTime := 0
    preemptions := 0
    misses := 0
    overstays := 0
    chargeStart := now
    penalty := .all 0 }

/-- Whether the review count reaches R at a rollover (R16). -/
def State.reviewDue (s : State) : Bool := decide (s.policy.reviewR ≤ s.acct.reviewCount + 1)

/-- Whether a waiting client's penalty falls when every penalty becomes 0 (R8, R14). -/
def State.waitingPenalised (s : State) : Bool :=
  clientList.any fun c => s.isWaiting c && decide (0 < s.acct.penalty.get c)

/-- A platform notice set where the condition holds. -/
def State.setPortNoticeIf (s : State) (p : Bool) (n : PortNotice) : State :=
  if p then s.setPortNotice n else s

/-- The rollover (R8): the running charge is split, the window record replaces the last one, counters and penalties
are cleared, the window starts anew, the review count and the survey advance, and the arbiter makes its check
where a waiting client's penalty fell. Several penalties that fall at one rollover bring one check, made after all
of them: DESIGN CHOICE, log entry 17. -/
def State.doRollover (s : State) : State :=
  let t : State := { s with acct := { s.acct.freshWindow s.clock with
    last := s.windowRecord
    reviewCount := if s.reviewDue then 0 else s.acct.reviewCount + 1
    survey := s.acct.survey.advance s.windowRecord } }
  ((t.setPortNoticeIf s.reviewDue .review).setPortNoticeIf s.acct.survey.completes .surveyDone).stateCheckIf
    s.waitingPenalised

/-- Whether the survey is ARMED or RUNNING. -/
def Survey.busy (v : Survey) : Bool := v.state != .idle

/-- The window restart (R10, R21): N and R stored, the partial window discarded with no record, the running charge
restarted on the account of the present arbiter state, the review count 0, an ARMED or RUNNING survey voided
with SURVEY-VOID, every penalty 0. -/
def State.restartWindow (s : State) (n r : Nat) : State :=
  { s with
    policy := { s.policy with windowN := n, reviewR := r }
    acct := { s.acct.freshWindow s.clock with
      charged := accountOf s.arb.mode
      reviewCount := 0
      survey := if s.acct.survey.busy then s.acct.survey.toIdle else s.acct.survey } }
  |>.setPortNoticeIf s.acct.survey.busy .surveyVoid

/-- The mode the arbiter parks in at a restart: the hand-off with nobody waiting (R108). -/
def State.restartArbiter (s : State) : Arbiter :=
  if s.arb.position = s.policy.defaultPos then
    match s.arb.mode.guardEnd with
    | none => ⟨.free, s.arb.position⟩
    | some g => ⟨.parking g, s.arb.position⟩
  else if s.policy.guardTime = 0 then ⟨.free, s.policy.defaultPos⟩
  else ⟨.parking s.newGuard, s.policy.defaultPos⟩

/-- A link at an arbitration restart (R148, R154): a frame in progress goes on, the reply register is emptied, the
announcement flag is set (again), the draft is reset, notices and link-error counter are cleared. -/
def Link.restarted (l : Link) : Link where
  receive :=
    match l.receive with
    | .inFrame d w a _ => .inFrame d w a true
    | x => x
  reply := .empty
  announce := true
  draft := .initial
  notices := 0
  errors := 0

/-- The arbitration restart, one act (R163): clients (R41), flow table and plan (R57, R83), live claims (R126),
arbiter (R108), accountant and survey (R23, R21), channel map unit (R128), links (R154); the policy store, the
air clock and the platform's flags and mask are kept. -/
def State.restartAll (s : State) : State :=
  { s with
    acct := { s.acct.freshWindow s.clock with
      charged := accountOf s.restartArbiter.mode
      reviewCount := 0
      survey := s.acct.survey.toIdle }
    sup := ⟨{ s.sup.nr with state := .detached, deadline := none },
      { s.sup.sr with state := .detached, deadline := none },
      { s.sup.ar with state := .detached, deadline := none }⟩
    flows := []
    plan := []
    arb := s.restartArbiter
    live := ⟨s.live.nr.unbound, s.live.sr.unbound, s.live.ar.unbound⟩
    channel := .clear
    links := ⟨s.links.nr.restarted, s.links.sr.restarted, s.links.ar.restarted⟩ }

end Sys2Proof.Machine
end

