-- ==== Sys2Proof/Machine/Links.lean ====
section
/-!
DEFINITION. The radio links' shared operations (chapter 8): the capture of a reply, the status word and the fetch data,
the end of a frame, and the taking of a passing frame with its tests in order (R27).
-/

namespace Sys2Proof.Machine

/-- What a meaning answers with: the next state. -/
abbrev Out := Host.Outcome State Fault Refusal

/-- While RESETN is low the part ignores its links, lines and bus, and no timer runs (R109, R138, R155). -/
def State.whenRunning (s : State) (f : State → State) : Out := .next (if s.resetn then f s else s)

/-! ## What replies report (R143 to R147) -/

/-- The status word of a client (R145). -/
def State.statusWord (s : State) (c : Client) : Value :=
  BitVec.ofNat 24
    (clientStateCode (s.sup.get c).state + 4 * liveStateCode (s.live.get c).state +
      (if s.gnt c then 16 else 0) + 32 * (s.links.get c).notices.toNat + 4096 * s.flowCount c +
      65536 * s.entryCount c)

/-- A fetch that names something: OK with its data; one that names nothing: RANGE with DATA 0 (R147). -/
def fetched (data : Option Value) : Result × Value :=
  match data with
  | none => (.range, 0)
  | some v => (.ok, v)

/-- ACCOUNT: usage in bits 15..0, penalty in bits 19..16 (R145). -/
def State.accountData (s : State) (c : Client) : Value :=
  BitVec.ofNat 24 (s.usageNow c + 65536 * s.acct.penalty.get c)

/-- The mask an argument names for a fetching client, as its avoided channels and its channel count (R136). -/
def State.namedMask (s : State) (c : Client) (arg : BitVec 16) : Option (List Nat × Nat) :=
  if arg = 1 then some (s.channel.srAvoided, Config.srChannels)
  else if arg = 2 then some (s.channel.arAvoided, Config.arChannels)
  else if arg = 0 then
    match c with
    | .nr => none
    | .sr => some (s.channel.srAvoided, Config.srChannels)
    | .ar => some (s.channel.arAvoided, Config.arChannels)
  else none

/-- MASK0..MASK3 (R136, R145). -/
def State.maskData (s : State) (c : Client) (part : Nat) (arg : BitVec 16) : Option Value :=
  (s.namedMask c arg).bind fun m => maskPart m.1 m.2 part

/-- FLOW: slot, effective class, pinned, bound, streak (R56, R145). -/
def State.flowData (s : State) (c : Client) (handle : Nat) : Option Value :=
  (s.flowNamed c handle).map fun f =>
    BitVec.ofNat 24
      (f.slot + 32 * classCode (effectiveClass f) + (if f.pinned.isSome then 256 else 0) +
        (if (s.live.get c).binding = some f.slot then 512 else 0) + 1024 * f.streak)

/-- The counter of a number 0..4; a number above 4 names none (R55). -/
def flowCounter (f : Flow) (n : Nat) : Option Nat :=
  match n with
  | 0 => some f.grants
  | 1 => some f.served
  | 2 => some f.missed
  | 3 => some f.cuts
  | 4 => some f.overstays
  | _ => none

/-- FLOWCOUNT (R55, R145). -/
def State.flowcountData (s : State) (c : Client) (arg : BitVec 16) : Option Value :=
  (s.flowNamed c (flowcountHandle arg)).bind fun f =>
    (flowCounter f (flowcountNumber arg)).map fun n => BitVec.ofNat 24 n

/-- ENTRY: the nominal start, or the state (R81, R145). -/
def State.entryData (s : State) (c : Client) (arg : BitVec 16) : Option Value :=
  (s.entryNamed c (fetchEntryNumber arg)).map fun e =>
    if fetchEntryPart arg then BitVec.ofNat 24 (entryStatusCode e.status) else low24 e.start

/-- The data of a fetch item, from the blocks as they stand; none where the item or its argument names nothing
(R145, R147). -/
def State.fetchData (s : State) (c : Client) (item : BitVec 8) (arg : BitVec 16) : Option Value :=
  match item.toNat with
  | 0 => some (low24 s.clock)
  | 1 => some (s.statusWord c)
  | 2 => some (BitVec.ofNat 24 (s.links.get c).notices.toNat)
  | 3 => some (s.accountData c)
  | 4 => some (BitVec.ofNat 24 (s.acct.last.held.get c))
  | 5 => s.maskData c 0 arg
  | 6 => s.maskData c 1 arg
  | 7 => s.maskData c 2 arg
  | 8 => s.maskData c 3 arg
  | 9 => s.flowData c arg.toNat
  | 10 => s.flowcountData c arg
  | 11 => s.entryData c arg
  | _ => none

/-- A reply frame without its parity bit (R144). -/
def replyBody (flag note : Bool) (r : Result) (data : Value) : FrameWord :=
  BitVec.ofNat 32
    ((if flag then 2 ^ 31 else 0) + (if note then 2 ^ 30 else 0) + 2 ^ 25 * resultCode r + 2 * data.toNat)

/-- A reply frame, P set so that all 32 bits hold an odd number of ones (R144). -/
def replyFrame (flag note : Bool) (r : Result) (data : Value) : FrameWord :=
  if oddParity (replyBody flag note r data) then replyBody flag note r data
  else replyBody flag note r data ||| 1

/-- The NOTE bit: whether any notice of the client is set (R144, R147). -/
def State.noteBit (s : State) (c : Client) : Bool := (s.links.get c).notices != 0

/-- The reply chosen at a SEL fall, with what it reports read at that moment (R146, R147, R148). -/
def State.captureReply (s : State) (c : Client) : FrameWord :=
  if (s.links.get c).announce then replyFrame true (s.noteBit c) .restart (s.statusWord c)
  else
    match (s.links.get c).reply with
    | .empty => Config.emptyRegisterReply s.freeIndex
    | .frameReply => replyFrame true (s.noteBit c) .frame (s.statusWord c)
    | .answer r d => replyFrame false (s.noteBit c) r d
    | .fetch item arg =>
      replyFrame false (s.noteBit c) (fetched (s.fetchData c item arg)).1 (fetched (s.fetchData c item arg)).2

/-! ## The end of a frame (R139 to R141, R146) -/

/-- Whether a frame can end on the link: not while an aborted frame or a SEL low since reset is still waiting for
its SEL rise (R138, R140). A frame row taken with SEL high stands for a frame whose SEL fall came at the same
air time (log entry 4). -/
def Link.canEnd (l : Link) : Bool :=
  match l.receive with
  | .ready => true
  | .inFrame _ _ _ _ => true
  | _ => false

/-- The announcement flag once the reply the frame carried is consumed: an announcement clears it unless it was set
again since the frame's SEL fall (R146). -/
def Link.flagAfterFrame (l : Link) : Bool :=
  match l.receive with
  | .inFrame _ _ announcing setAgain => l.announce && (!announcing || setAgain)
  | .ready => false
  | _ => l.announce

/-- The frame ends as anything but a pause: it consumes the reply it carried (R146). -/
def Link.consume (l : Link) : Link := { l with receive := .ready, announce := l.flagAfterFrame }

/-- The rejection of a frame (R141): the link-error counter, LINKERR, and the FRAME reply. -/
def State.rejectFrame (s : State) (c : Client) : State :=
  (s.onLink c fun l =>
    { l with errors := min Config.linkErrorMax (l.errors + 1), reply := .frameReply }).setPortNotice .linkErr

/-- The reply register set to an answer (R146). -/
def State.answer (s : State) (c : Client) (r : Result) (d : Value) : State :=
  s.onLink c fun l => { l with reply := .answer r d }

/-- A refusal carries DATA 0 (R144). -/
def State.refuse (s : State) (c : Client) (r : Result) : State := s.answer c r 0

/-- A passing frame of the client, other than ATTACH, is taken: the reply it carried is consumed, it counts as
evidence of presence, and it acts (R29, R30, R139, R146). -/
def State.takeFrame (s : State) (c : Client) (act : State → State) : State :=
  if (s.links.get c).canEnd then act ((s.onLink c Link.consume).presence c) else s

/-- A command that only OPENING and ACTIVE admit: refused with STATE in DETACHED and SILENT (R27). -/
def State.ifAdmitted (s : State) (c : Client) (act : State → State) : State :=
  if s.admitted c then act s else s.refuse c .state

/-- A FETCH is left in the reply register, its data settled at the capture moment (R146, R147). -/
def State.leaveFetch (s : State) (c : Client) (item : Nat) (arg : BitVec 16) : State :=
  s.onLink c fun l => { l with reply := .fetch (BitVec.ofNat 8 item) arg }

end Sys2Proof.Machine
end

