-- ==== Sys2Proof/Machine/ClientCommands.lean ====
section
/-!
DEFINITION. PRESENT, ATTACH and DETACH (R25, R26, R28, R30).
-/

namespace Sys2Proof.Machine

/-- PRESENT: refreshes presence and nothing else (R30). -/
def execPresent (c : Client) (_value : Value) (s : State) : Out :=
  s.whenRunning fun s => s.takeFrame c fun s => s.ifAdmitted c fun s => s.answer c .ok 0

/-- ATTACH: tears an attached client down, moves it to OPENING with a fresh opening window, empties the reply
register and sets the announcement flag; the promotion of R29 does not follow (R25, R26, R148). -/
def execAttach (c : Client) (_value : Value) (s : State) : Out :=
  s.whenRunning fun s =>
    if (s.links.get c).canEnd then
      (((s.onLink c Link.consume).teardownIfAttached c).enterOpening c).onLink c fun l =>
        { l with reply := .empty, announce := true }
    else s

/-- DETACH: tears an attached client down; OK in every state (R27, R28). -/
def execDetach (c : Client) (_value : Value) (s : State) : Out :=
  s.whenRunning fun s => s.takeFrame c fun s => (s.teardownIfAttached c).answer c .ok 0

end Sys2Proof.Machine
end

