-- ==== Sys2Proof/Machine/FlowCommands.lean ====
section
/-!
DEFINITION. OPEN FLOW, CLOSE FLOW, RECLASS and BIND LIVE (R44, R45, R49, R52).
-/

namespace Sys2Proof.Machine

/-- The record of a new flow (R44). -/
def newFlow (slot : Nat) (c : Client) (handle : Nat) (k : FlowClass) : Flow :=
  ⟨slot, c, handle, k, none, 0, 0, 0, 0, 0, 0⟩

/-- OPEN FLOW's checks in order, and the new record in the lowest free slot (R44). -/
def State.openFlow (s : State) (c : Client) (handle : Nat) : State :=
  if handle = 0 ∨ 255 < handle then s.refuse c .range
  else
    match classOfCode (s.links.get c).draft.flowClass.toNat with
    | none => s.refuse c .range
    | some k =>
      if (s.flowNamed c handle).isSome then s.refuse c .duplicate
      else if Config.flowsPerClient ≤ s.flowCount c then s.refuse c .noRoom
      else
        match s.freeSlot with
        | none => s.refuse c .noRoom
        | some slot =>
          ({ s with flows := insertFlow (newFlow slot c handle k) s.flows } : State).answer c .ok
            (BitVec.ofNat 24 slot)

/-- OPEN FLOW (R44). -/
def execOpenFlow (c : Client) (value : Value) (s : State) : Out :=
  s.whenRunning fun s => s.takeFrame c fun s => s.ifAdmitted c fun s => s.openFlow c (wholeHandle value)

/-- The flow is closed, one act (R45): its entries, its binding and live claim, and its record go, and the arbiter
answers the withdrawal of the claims it had. -/
def State.closeFlow (s : State) (f : Flow) : State :=
  let t : State := { s with
    flows := s.flows.filter fun x => x.slot != f.slot
    plan := s.plan.filter fun e => e.flow != f.slot
    live :=
      if (s.live.get f.owner).binding = some f.slot then
        s.live.set f.owner (s.live.get f.owner).unbound
      else s.live }
  if s.flowClaims f.owner f.slot then s.claimsLeft t f.owner else t

/-- CLOSE FLOW (R45, R38). -/
def execCloseFlow (c : Client) (value : Value) (s : State) : Out :=
  s.whenRunning fun s => s.takeFrame c fun s => s.ifAdmitted c fun s =>
    match s.flowNamed c (wholeHandle value) with
    | none => s.refuse c .unknown
    | some f =>
      if (s.sup.get c).frozen ∧ 0 < s.entriesOfFlow f.slot then s.refuse c .locked
      else (s.closeFlow f).answer c .ok 0

/-- RECLASS (R49). -/
def execReclass (c : Client) (value : Value) (s : State) : Out :=
  s.whenRunning fun s => s.takeFrame c fun s => s.ifAdmitted c fun s =>
    match s.flowNamed c (reclassHandle value) with
    | none => s.refuse c .unknown
    | some f =>
      match classOfCode (reclassCode value) with
      | none => s.refuse c .range
      | some k =>
        if f.pinned.isSome then s.refuse c .locked
        else (s.reclassed f { f with requested := k }).answer c .ok 0

/-- BIND LIVE: binds the request line to a flow, or unbinds it with handle 0, while the live claim is IDLE (R52). -/
def execBindLive (c : Client) (value : Value) (s : State) : Out :=
  s.whenRunning fun s => s.takeFrame c fun s => s.ifAdmitted c fun s =>
    if wholeHandle value = 0 then
      if (s.live.get c).state = .idle then
        (s.onLive c fun l => { l with binding := none }).answer c .ok 0
      else s.refuse c .state
    else
      match s.flowNamed c (wholeHandle value) with
      | none => s.refuse c .unknown
      | some f =>
        if (s.live.get c).state = .idle then
          (s.onLive c fun l => { l with binding := some f.slot }).answer c .ok (BitVec.ofNat 24 f.handle)
        else s.refuse c .state

end Sys2Proof.Machine
end

