-- ==== Sys2Proof/Machine/LineEvents.lean ====
section
/-!
DEFINITION. The confirmed edges of the REQ and PRIO lines (R113 to R115, R121, R122).
-/

namespace Sys2Proof.Machine

/-- Whether a REQ rise makes a live claim: the client OPENING or ACTIVE, bound, its live claim IDLE (R114). -/
def State.riseMakesClaim (s : State) (c : Client) : Bool :=
  s.admitted c && (s.live.get c).binding.isSome && (s.live.get c).state == .idle

/-- REQ_RISE: the recorded level goes high, and where R114's three conditions hold a WAITING live claim arrives on
the board, its urgency bit the recorded PRIO level. With the recorded level already high there is no edge. -/
def execReqRise (c : Client) (s : State) : Out :=
  s.whenRunning fun s =>
    if (s.live.get c).reqLevel then s
    else if s.riseMakesClaim c then
      (s.onLive c fun l => { l with
        reqLevel := true
        state := .waiting l.prioLevel (after s.clock s.policy.agingInterval) }).claimArrived c
    else s.onLive c fun l => { l with reqLevel := true }

/-- REQ_FALL: the recorded level goes low; a WAITING or HOLDING claim is released (R122), a SPENT one returns to
IDLE with nothing reported (R121). With the recorded level already low there is no edge. -/
def execReqFall (c : Client) (s : State) : Out :=
  s.whenRunning fun s =>
    if (s.live.get c).reqLevel = false then s
    else
      let t := s.onLive c fun l => { l.toIdle with reqLevel := false }
      if (s.live.get c).onBoard then s.claimsLeft t c else t

/-- PRIO_EDGE: only the recorded level changes (R113). -/
def execPrioEdge (c : Client) (level : Bool) (s : State) : Out :=
  s.whenRunning fun s => s.onLive c fun l => { l with prioLevel := level }

end Sys2Proof.Machine
end

