-- ==== Sys2Proof/Machine/LinkCommands.lean ====
section
/-!
DEFINITION. CHANNEL NOTE, CLEAR NOTES, the parameter frame, the reserved frame and the FETCH rows (R129, R152, R149,
R142, R146, R147, R150).
-/

namespace Sys2Proof.Machine

/-- The DATA of a CHANNEL NOTE's OK reply: SR usable count in bits 6..0, AR usable count in bits 12..8 (R143). -/
def usableData (u : ChannelUnit) : Value := BitVec.ofNat 24 (srUsable u + 256 * arUsable u)

/-- CHANNEL NOTE: taken from NR only; the note is replaced and both masks recomputed (R39, R129, R134, R135). -/
def execChannelNote (c : Client) (value : Value) (s : State) : Out :=
  s.whenRunning fun s => s.takeFrame c fun s => s.ifAdmitted c fun s =>
    if c ≠ .nr then s.refuse c .role
    else
      match noteOf (noteOffset value) (noteWidth value) with
      | none => s.refuse c .range
      | some note => (s.recompute note).answer c .ok (usableData (s.recompute note).channel)

/-- CLEAR NOTES: a snapshot of the flags, those set in it and in the mask cleared; taken in every state (R152). -/
def execClearNotes (c : Client) (value : Value) (s : State) : Out :=
  s.whenRunning fun s => s.takeFrame c fun s =>
    (s.onLink c fun l => { l with notices := clearFlags l.notices (notesMask value) }).answer c .ok
      (BitVec.ofNat 24 (s.links.get c).notices.toNat)

/-- The draft with the field of an index written; an index of 6..31 names none (R149). -/
def Draft.write (d : Draft) (index : BitVec 5) (v : Value) : Option Draft :=
  match index.toNat with
  | 0 => some { d with flowClass := v }
  | 1 => some { d with start := v }
  | 2 => some { d with duration := v }
  | 3 => some { d with period := v }
  | 4 => some { d with count := v }
  | 5 => some { d with slide := v }
  | _ => none

/-- A parameter frame writes its VALUE, unchanged, into the indexed field of the draft (R149). -/
def execParameterFrame (c : Client) (index : BitVec 5) (value : Value) (s : State) : Out :=
  s.whenRunning fun s => s.takeFrame c fun s => s.ifAdmitted c fun s =>
    match (s.links.get c).draft.write index value with
    | none => s.refuse c .range
    | some d => (s.onLink c fun l => { l with draft := d }).answer c .ok 0

/-- A passing frame of a reserved KIND or CODE: RANGE in every client state, nothing else but presence (R142). -/
def execReservedFrame (c : Client) (_kind : BitVec 2) (_code : BitVec 5) (_value : Value) (s : State) : Out :=
  s.whenRunning fun s => s.takeFrame c fun s => s.refuse c .range

/-! ## FETCH (R146, R147, R150)

Taken in every client state; the data is settled at the capture moment of the reply, by `State.fetchData`. -/

/-- FETCH TIME, item 0 (R3). -/
def execFetchTime (c : Client) (arg : BitVec 16) (s : State) : Out :=
  s.whenRunning fun s => s.takeFrame c fun s => s.leaveFetch c 0 arg

/-- FETCH STATUS, item 1 (R145). -/
def execFetchStatus (c : Client) (arg : BitVec 16) (s : State) : Out :=
  s.whenRunning fun s => s.takeFrame c fun s => s.leaveFetch c 1 arg

/-- FETCH NOTES, item 2 (R145). -/
def execFetchNotes (c : Client) (arg : BitVec 16) (s : State) : Out :=
  s.whenRunning fun s => s.takeFrame c fun s => s.leaveFetch c 2 arg

/-- FETCH ACCOUNT, item 3 (R15). -/
def execFetchAccount (c : Client) (arg : BitVec 16) (s : State) : Out :=
  s.whenRunning fun s => s.takeFrame c fun s => s.leaveFetch c 3 arg

/-- FETCH LAST, item 4 (R15). -/
def execFetchLast (c : Client) (arg : BitVec 16) (s : State) : Out :=
  s.whenRunning fun s => s.takeFrame c fun s => s.leaveFetch c 4 arg

/-- FETCH MASK0..MASK3, items 5..8 (R136). -/
def execFetchMask (c : Client) (part : BitVec 2) (arg : BitVec 16) (s : State) : Out :=
  s.whenRunning fun s => s.takeFrame c fun s => s.leaveFetch c (5 + part.toNat) arg

/-- FETCH FLOW, item 9 (R56). -/
def execFetchFlow (c : Client) (arg : BitVec 16) (s : State) : Out :=
  s.whenRunning fun s => s.takeFrame c fun s => s.leaveFetch c 9 arg

/-- FETCH FLOWCOUNT, item 10 (R55). -/
def execFetchFlowcount (c : Client) (arg : BitVec 16) (s : State) : Out :=
  s.whenRunning fun s => s.takeFrame c fun s => s.leaveFetch c 10 arg

/-- FETCH ENTRY, item 11 (R81). -/
def execFetchEntry (c : Client) (arg : BitVec 16) (s : State) : Out :=
  s.whenRunning fun s => s.takeFrame c fun s => s.leaveFetch c 11 arg

/-- A FETCH whose item code is above 11: left in the register like any other, answered with RANGE at the capture
(R147). -/
def execFetchItemAbove11 (c : Client) (item : BitVec 8) (arg : BitVec 16) (s : State) : Out :=
  s.whenRunning fun s => s.takeFrame c fun s => s.leaveFetch c item.toNat arg

end Sys2Proof.Machine
end

