-- ==== Sys2Proof/Machine/LinkEvents.lean ====
section
/-!
DEFINITION. The SEL edges of a radio link that carry no passing frame: REPLY_CAPTURE, PAUSE, FRAME_REJECTED,
SELECT_TIMEOUT, ABORTED_FRAME_END, SEL_RISE_AFTER_RESET (R138 to R141, R146, R147).
-/

namespace Sys2Proof.Machine

/-- REPLY_CAPTURE: SEL falls; the reply is chosen and read, and the select deadline set (R140, R146, R147). A fall
can come only with SEL high. -/
def execReplyCapture (c : Client) (s : State) : Out :=
  s.whenRunning fun s =>
    match (s.links.get c).receive with
    | .ready =>
      let t := s.onLink c fun l => { l with
        receive := .inFrame (after s.clock Config.selectLimit) (s.captureReply c) l.announce false }
      if (s.links.get c).announce = false ∧ (s.links.get c).reply = .empty then
        { t with freeIndex := s.freeIndex + 1 }
      else t
    | _ => s

/-- PAUSE: SEL rises with no rising edge of CLK; nothing is consumed and nothing counts (R139, R146). -/
def execPause (c : Client) (s : State) : Out :=
  s.whenRunning fun s =>
    match (s.links.get c).receive with
    | .inFrame _ _ _ _ => s.onLink c fun l => { l with receive := .ready }
    | _ => s

/-- FRAME_REJECTED: SEL rises on a damaged frame, which consumes the reply it carried and is rejected (R139, R141,
R146), in the same way whatever the cause. -/
def execFrameRejected (c : Client) (_cause : FrameFault) (s : State) : Out :=
  s.whenRunning fun s =>
    if (s.links.get c).canEnd then (s.onLink c Link.consume).rejectFrame c else s

/-- Whether the link's select deadline has been reached with SEL still low (R140). -/
def State.selectDue (s : State) (c : Client) : Bool :=
  match (s.links.get c).receive with
  | .inFrame d _ _ _ => reached s.clock d
  | _ => false

/-- SELECT_TIMEOUT: the frame is aborted and rejected; the link then waits for SEL to rise (R140). -/
def execSelectTimeout (c : Client) (s : State) : Out :=
  s.whenRunning fun s =>
    if s.selectDue c then
      (s.onLink c fun l => { l.consume with receive := .aborted }).rejectFrame c
    else s

/-- ABORTED_FRAME_END: the SEL rise that ends an aborted frame (R140). -/
def execAbortedFrameEnd (c : Client) (s : State) : Out :=
  s.whenRunning fun s =>
    match (s.links.get c).receive with
    | .aborted => s.onLink c fun l => { l with receive := .ready }
    | _ => s

/-- SEL_RISE_AFTER_RESET: the rise of a SEL that was low at the end of reset (R138). -/
def execSelRiseAfterReset (c : Client) (s : State) : Out :=
  s.whenRunning fun s =>
    match (s.links.get c).receive with
    | .awaitingRise => s.onLink c fun l => { l with receive := .ready }
    | _ => s

end Sys2Proof.Machine
end

