-- ==== Sys2Proof/Machine/PlanCommands.lean ====
section
/-!
DEFINITION. POST, RETIME and CANCEL (R61, R77, R78, R75).
-/

namespace Sys2Proof.Machine

/-- The slide of a POST after the trim (R63). -/
def State.trimmedSlide (s : State) (d : Draft) : Nat :=
  min d.slide.toNat (slideLimit s.policy.guardTime d.duration.toNat d.period.toNat)

/-- The commit of a POST (R66): the entry takes its place, falls due at once if its start has been reached, and the
reply carries OK or CONTESTED (R67), the entry number and the flags. -/
def State.commitPost (s : State) (c : Client) (x : Entry) (trimmed advanced : Bool) : State :=
  (({ s with plan := insertEntry x s.plan } : State).wake x.number).answer c
    (if s.contested x then .contested else .ok)
    (postData x.number trimmed advanced (reached s.clock x.start))

/-- POST's checks from the shape step on, in order (R61 to R66). It reads the five fields that R61 names; a draft
CLASS that names no class does not refuse it, though an example of section 3.2 says so: DESIGN CHOICE, log entry
19. -/
def State.postDraft (s : State) (c : Client) (f : Flow) (d : Draft) : State :=
  if shapeOk s.policy.guardTime d.duration.toNat d.period.toNat d.count.toNat = false then
    s.refuse c .range
  else if Config.entriesPerClient ≤ s.entryCount c then s.refuse c .noRoom
  else
    match s.freeEntry with
    | none => s.refuse c .noRoom
    | some n =>
      match resolveStart s.clock d.start (s.trimmedSlide d) d.period.toNat with
      | .late => s.refuse c .late
      | .at start advanced =>
        if s.loadAdmits c (loadFigure d.duration.toNat d.period.toNat) then
          s.commitPost c (postedEntry n c f.slot d (s.trimmedSlide d) start)
            (decide (s.trimmedSlide d < d.slide.toNat)) advanced
        else (s.setPortNotice .refused).refuse c .load

/-- POST (R61). -/
def execPost (c : Client) (value : Value) (s : State) : Out :=
  s.whenRunning fun s => s.takeFrame c fun s => s.ifAdmitted c fun s =>
    if (s.sup.get c).frozen then s.refuse c .locked
    else
      match s.flowNamed c (wholeHandle value) with
      | none => s.refuse c .unknown
      | some f => s.postDraft c f (s.links.get c).draft

/-- RETIME on one of the client's entries: at once on a SCHEDULED entry (R77), held pending on a DUE or HOLDING
one (R78). No RETIME reaches a SUSPENDED entry. -/
def State.retimeEntry (s : State) (e : Entry) (o : BitVec 13) : State :=
  match e.status with
  | .scheduled =>
    (s.onEntry e.number fun x =>
      some { x with start := clampReached s.clock (offsetBy x.start o) }).wake e.number
  | .suspended _ => s
  | _ => s.onEntry e.number fun x => some { x with pendingOffset := some o }

/-- RETIME (R77, R78). -/
def execRetime (c : Client) (value : Value) (s : State) : Out :=
  s.whenRunning fun s => s.takeFrame c fun s => s.ifAdmitted c fun s =>
    if (s.sup.get c).frozen then s.refuse c .locked
    else
      match s.entryNamed c (retimeEntry value) with
      | none => s.refuse c .unknown
      | some e => (s.retimeEntry e (retimeOffset value)).answer c .ok 0

/-- CANCEL (R75). -/
def execCancel (c : Client) (value : Value) (s : State) : Out :=
  s.whenRunning fun s => s.takeFrame c fun s => s.ifAdmitted c fun s =>
    if (s.sup.get c).frozen then s.refuse c .locked
    else
      match s.entryNamed c (wholeEntry value) with
      | none => s.refuse c .unknown
      | some e => (s.removeEntry e false).answer c .ok 0

end Sys2Proof.Machine
end

