-- ==== Sys2Proof/Machine/PortWrites.lean ====
section
/-!
DEFINITION. How a platform write ends (R156, R158, R165), and the writes that are discarded or empty:
DISCARDED_WRITE, EMPTY_WRITE.
-/

namespace Sys2Proof.Machine

/-- An executed write ends: the last result and the readout replace those of the previous write, and RESET is
cleared, the readout having been prepared before (R156, R165). -/
def State.finishWrite (s : State) (r : PortResult) (readout : List Byte) : State :=
  { s with port := { s.port with
      lastResult := r, readout := readout, flags := clearFlags s.port.flags (portBit .reset) } }

/-- A refused write ends: only its result stands, with an empty readout (R156); RESET is kept (R165). -/
def State.refuseWrite (s : State) (r : PortResult) : State :=
  { s with port := { s.port with lastResult := r, readout := [] } }

/-- The result a discarded write gets (R156, steps 1 and 2). -/
def discardResult : WriteFault → PortResult
  | .unknown _ => .unknown
  | .length _ _ _ => .length
  | .noCommand => .length

/-- DISCARDED_WRITE: refused with UNKNOWN or LENGTH (R156). -/
def execDiscardedWrite (cause : WriteFault) (s : State) : Out :=
  s.whenRunning fun s => s.refuseWrite (discardResult cause)

/-- EMPTY_WRITE: not taken (R156). -/
def execEmptyWrite (s : State) : Out := s.whenRunning fun s => s

end Sys2Proof.Machine
end

