-- ==== Sys2Proof/Machine/PortCommands.lean ====
section
/-!
DEFINITION. FREEZE PLAN, PIN FLOW, UNPIN FLOW, DROP ENTRY, EVICT, REVIVE, START SURVEY, STOP SURVEY, RESTART and
CLEAR NOTICES (R162, R163, R168).
-/

namespace Sys2Proof.Machine

/-- FREEZE PLAN: POLICY only where the flag changes (R38, R162). -/
def execFreezePlan (client state : Byte) (s : State) : Out :=
  s.whenRunning fun s =>
    match clientOfIndex client.toNat with
    | none => s.refuseWrite .range
    | some c =>
      ((s.onSup c fun v => { v with frozen := freezeOn state }).giveNoticeIf
        ((s.sup.get c).frozen != freezeOn state) c .policy).finishWrite .ok []

/-- The flow `f` gets the pinned class `p`; a pin that changes gives its owner POLICY and has the effects of R48
(R50, R51). -/
def State.setPin (s : State) (f : Flow) (p : Option FlowClass) : State :=
  if f.pinned = p then s
  else (s.giveNotice f.owner .policy).reclassed f { f with pinned := p }

/-- PIN FLOW: a class above 5 is saturated to 5 (R50). -/
def execPinFlow (slot code : Byte) (s : State) : Out :=
  s.whenRunning fun s =>
    match s.flowAt slot.toNat with
    | none => s.refuseWrite .range
    | some f =>
      (s.setPin f (classOfCode (saturate 0 5 code.toNat))).finishWrite (clampedIf (outside 0 5 code.toNat)) []

/-- UNPIN FLOW (R51). -/
def execUnpinFlow (slot : Byte) (s : State) : Out :=
  s.whenRunning fun s =>
    match s.flowAt slot.toNat with
    | none => s.refuseWrite .range
    | some f => (s.setPin f none).finishWrite .ok []

/-- DROP ENTRY: the entry is removed in any state, its owner given ENDED (R76). -/
def execDropEntry (entry : Byte) (s : State) : Out :=
  s.whenRunning fun s =>
    match s.entryAt entry.toNat with
    | none => s.refuseWrite .range
    | some e => (s.removeEntry e true).finishWrite .ok []

/-- EVICT: an attached client is torn down; OK also for a DETACHED one (R35). -/
def execEvict (client : Byte) (s : State) : Out :=
  s.whenRunning fun s =>
    match clientOfIndex client.toNat with
    | none => s.refuseWrite .range
    | some c => (s.teardownIfAttached c).finishWrite .ok []

/-- REVIVE: of a SILENT client only (R34). -/
def execRevive (client : Byte) (s : State) : Out :=
  s.whenRunning fun s =>
    match clientOfIndex client.toNat with
    | none => s.refuseWrite .range
    | some c =>
      if (s.sup.get c).state = .silent then (s.reviveClient c).finishWrite .ok []
      else s.refuseWrite .range

/-- START SURVEY: BUSY while ARMED or RUNNING, otherwise ARMED with K (R17). -/
def execStartSurvey (k : Byte) (s : State) : Out :=
  s.whenRunning fun s =>
    if s.acct.survey.busy then s.refuseWrite .busy
    else
      ({ s with acct := { s.acct with survey := { s.acct.survey with
          state := .armed, k := saturate 1 255 k.toNat, summed := 0, sums := .zero } } } : State).finishWrite
        (clampedIf (outside 1 255 k.toNat)) []

/-- STOP SURVEY: back to IDLE with the result kept; OK in every survey state (R20). -/
def execStopSurvey (s : State) : Out :=
  s.whenRunning fun s =>
    (if s.acct.survey.busy then { s with acct := { s.acct with survey := s.acct.survey.toIdle } }
      else s).finishWrite .ok []

/-- RESTART (R163). -/
def execRestart (s : State) : Out := s.whenRunning fun s => s.restartAll.finishWrite .ok []

/-- CLEAR NOTICES: the snapshot is the readout; the flags set in it and in the mask are cleared (R168). -/
def execClearNotices (mask : BitVec 16) (s : State) : Out :=
  s.whenRunning fun s =>
    ({ s with port := { s.port with flags := clearFlags s.port.flags (portMask mask) } } : State).finishWrite
      .ok (bytes2 s.port.flags.toNat)

end Sys2Proof.Machine
end

