-- ==== Sys2Proof/Machine/PortReadouts.lean ====
section
/-!
DEFINITION. The READ commands and the layouts of their readouts (R164, R167, R111, R137, R22), and what a read
transaction returns (R158).
-/

namespace Sys2Proof.Machine

/-- A number, or 0xFF where absent (R164). -/
def byteOr255 (n : Option Nat) : List Byte := byte1 (n.getD 255)

/-- The notices readout (R167). -/
def State.noticesReadout (s : State) : List Byte :=
  bytes2 s.port.flags.toNat ++ bytes2 s.port.attnMask.toNat

/-- The client readout (R24, R43, R141, R164). -/
def State.clientReadout (s : State) (c : Client) : List Byte :=
  byte1 (clientStateCode (s.sup.get c).state) ++ byte1 (liveStateCode (s.live.get c).state) ++
    byte1 (s.flowCount c) ++ byte1 (s.entryCount c) ++ byte1 (s.policy.clients.get c).share ++
    bytes2 (s.policy.clients.get c).cap ++ byte1 (s.policy.clients.get c).presence ++
    byte1 (s.policy.clients.get c).rank ++ byte1 (if (s.sup.get c).frozen then 1 else 0) ++
    byte1 (s.links.get c).errors ++ byteOr255 (s.live.get c).binding

/-- The account readout (R15, R164). -/
def State.accountReadout (s : State) (c : Client) : List Byte :=
  bytes2 (s.usageNow c) ++ bytes2 (s.acct.last.held.get c) ++ bytes2 (s.allowance c) ++
    byte1 (s.acct.penalty.get c) ++ bytes2 (s.plannedLoad c)

/-- The flow readout (R56, R164). -/
def State.flowReadout (s : State) (f : Flow) : List Byte :=
  byte1 (clientIndex f.owner) ++ byte1 f.handle ++ byte1 (classCode f.requested) ++
    byteOr255 (f.pinned.map classCode) ++ byte1 (classCode (effectiveClass f)) ++ byte1 f.streak ++
    byte1 (if (s.live.get f.owner).binding = some f.slot then 1 else 0) ++ byte1 (s.entriesOfFlow f.slot) ++
    bytes2 f.grants ++ bytes2 f.served ++ bytes2 f.missed ++ bytes2 f.cuts ++ bytes2 f.overstays

/-- The grant start of an entry, present in HOLDING only (R58). -/
def Entry.grantStart (e : Entry) : Option AirTime :=
  match e.status with
  | .holding g => some g
  | _ => none

/-- The low 24 bits of an air time as a number (R3). -/
def low24Nat (t : AirTime) : Nat := (low24 t).toNat

/-- The pending offset as a 16-bit two's complement number, 0 when absent (R164). -/
def offsetNat (o : Option (BitVec 13)) : Nat :=
  match o with
  | none => 0
  | some b => (b.signExtend 16).toNat

/-- The entry readout (R81, R164). -/
def entryReadout (e : Entry) : List Byte :=
  byte1 (clientIndex e.owner) ++ byte1 e.flow ++ byte1 (entryStatusCode e.status) ++
    bytes3 (low24Nat e.start) ++ bytes2 e.duration ++ bytes3 e.period ++ bytes2 e.count ++ bytes3 e.slide ++
    bytes2 e.load ++
    byte1 ((if e.grantStart.isSome then 1 else 0) + if e.pendingOffset.isSome then 2 else 0) ++
    bytes3 ((e.grantStart.map low24Nat).getD 0) ++ bytes2 (offsetNat e.pendingOffset)

/-- The plan order readout (R80, R164). -/
def State.orderReadout (s : State) : List Byte :=
  byte1 s.plan.length ++ s.planOrder.map fun e => BitVec.ofNat 8 e.number

/-- The remaining guard: the deadline minus the present air time, 0 in FREE and HELD (R111). -/
def State.remainingGuard (s : State) : Nat :=
  match s.arb.mode.guardEnd with
  | none => 0
  | some g => if reached s.clock g then 0 else (g - s.clock).toNat

/-- The air readout, weights computed afresh (R111). -/
def State.airReadout (s : State) : List Byte :=
  byte1 (arbiterModeCode s.arb.mode) ++ byteOr255 (s.arb.mode.holder.map clientIndex) ++
    byteOr255 (s.arb.mode.next.map clientIndex) ++ byte1 (clientIndex s.arb.position) ++
    byte1 s.remainingGuard ++ byteOr255 (s.clientWeight .nr) ++ byteOr255 (s.clientWeight .sr) ++
    byteOr255 (s.clientWeight .ar)

/-- The centre offset of the note, 0 for not in band (R137). -/
def noteOffsetOf (n : Option ChannelNote) : Nat :=
  match n with
  | none => 0
  | some x => x.centre - 2400

/-- The width code of the note: 1 for 40 MHz, otherwise 0 (R164). -/
def noteWidthCode (n : Option ChannelNote) : Nat :=
  match n with
  | some ⟨_, .w40⟩ => 1
  | _ => 0

/-- `n` bytes of a mask, channel 8i in bit 0 of byte i (R164). -/
def maskBytes (avoided : List Nat) (n : Nat) : List Byte :=
  (List.range n).map fun i => BitVec.ofNat 8 (maskBits avoided (8 * i) 8)

/-- The channel readout (R137, R164). -/
def State.channelReadout (s : State) : List Byte :=
  byte1 (noteOffsetOf s.channel.note) ++ byte1 (noteWidthCode s.channel.note) ++
    byte1 s.policy.channelGuard ++ maskBytes s.channel.srAvoided 10 ++ maskBytes s.channel.arAvoided 2 ++
    byte1 (srUsable s.channel) ++ byte1 s.channel.srRestored ++ byte1 (arUsable s.channel) ++
    byte1 s.channel.arRestored

/-- The survey readout (R22, R164). -/
def State.surveyReadout (s : State) : List Byte :=
  let v := s.acct.survey
  byte1 (surveyStateCode v.state) ++ byte1 v.k ++ byte1 v.summed ++ byte1 v.resultWindows ++
    bytes2 v.resultLength ++ bytes3 v.result.held.nr ++ bytes3 v.result.held.sr ++ bytes3 v.result.held.ar ++
    bytes3 v.result.guardTime ++ bytes3 v.result.idleTime ++ bytes2 v.result.preemptions ++
    bytes2 v.result.misses ++ bytes2 v.result.overstays

/-- A READ command that names something prepares its readout with OK, one that names nothing is refused with RANGE
(R156, R164). -/
def State.read (s : State) (readout : Option (List Byte)) : State :=
  match readout with
  | none => s.refuseWrite .range
  | some bs => s.finishWrite .ok bs

/-- READ NOTICES (R167). -/
def execReadNotices (s : State) : Out := s.whenRunning fun s => s.read (some s.noticesReadout)

/-- READ CLIENT (R164). -/
def execReadClient (client : Byte) (s : State) : Out :=
  s.whenRunning fun s => s.read ((clientOfIndex client.toNat).map s.clientReadout)

/-- READ ACCOUNT (R15, R164). -/
def execReadAccount (client : Byte) (s : State) : Out :=
  s.whenRunning fun s => s.read ((clientOfIndex client.toNat).map s.accountReadout)

/-- READ FLOW (R56, R164). -/
def execReadFlow (slot : Byte) (s : State) : Out :=
  s.whenRunning fun s => s.read ((s.flowAt slot.toNat).map s.flowReadout)

/-- READ ENTRY (R81, R164). -/
def execReadEntry (entry : Byte) (s : State) : Out :=
  s.whenRunning fun s => s.read ((s.entryAt entry.toNat).map entryReadout)

/-- READ PLAN ORDER (R80, R164). -/
def execReadPlanOrder (s : State) : Out := s.whenRunning fun s => s.read (some s.orderReadout)

/-- READ AIR (R111). -/
def execReadAir (s : State) : Out := s.whenRunning fun s => s.read (some s.airReadout)

/-- READ CHANNEL (R137). -/
def execReadChannel (s : State) : Out := s.whenRunning fun s => s.read (some s.channelReadout)

/-- READ SURVEY (R22). -/
def execReadSurvey (s : State) : Out := s.whenRunning fun s => s.read (some s.surveyReadout)

/-- The first `n` bytes a read transaction returns: the result byte, the readout, then 0x00 bytes (R158). A read
changes no state. -/
def State.readBytes (s : State) (n : Nat) : List Byte :=
  ((portResultByte s.port.lastResult :: s.port.readout) ++ List.replicate n 0).take n

/-- The port's 7-bit I2C address: 0x4C plus the straps sampled at the end of reset (R155). -/
def State.portAddress (s : State) : BitVec 7 := 0x4C + s.port.straps.setWidth 7

end Sys2Proof.Machine
end

