-- ==== Sys2Proof/Machine/PortSettings.lean ====
section
/-!
DEFINITION. SET CLASS, SET CLIENT, SET WINDOW, SET ARBITER and SET ATTN MASK (R159 to R161, R104, R105, R166).
-/

namespace Sys2Proof.Machine

/-- The row a SET CLASS writes, each value saturated (R159). -/
def classRowOf (base step flags : Byte) (holdLimit : BitVec 16) : ClassRow where
  base := saturate 0 15 base.toNat
  step := saturate 0 3 step.toNat
  urgent := flagUrgent flags
  preemptible := flagPreemptible flags
  holdLimit := saturate 100 65000 holdLimit.toNat

/-- SET CLASS: the row is replaced, hold deadlines follow, and the arbiter makes its check (R159, R119, R106). -/
def execSetClass (code base step flags : Byte) (holdLimit : BitVec 16) (s : State) : Out :=
  s.whenRunning fun s =>
    match classOfCode code.toNat with
    | none => s.refuseWrite .range
    | some k =>
      let t : State := { s with policy := { s.policy with
        classes := s.policy.classes.setRow k (classRowOf base step flags holdLimit) } }
      ((t.refreshHolds k).stateCheck).finishWrite
        (clampedIf (outside 0 15 base.toNat || outside 0 3 step.toNat || outside 100 65000 holdLimit.toNat)) []

/-- The tie rank of client `d` after rank `r` is written for client `c`: the client that held `r` takes the rank
`c` held (R160). -/
def swappedRank (p : PerClient ClientPolicy) (c : Client) (r : Nat) (d : Client) : Nat :=
  if d = c then r else if (p.get d).rank = r then (p.get c).rank else (p.get d).rank

/-- The per-client policy after a SET CLIENT for `c` (R160). -/
def writtenClients (p : PerClient ClientPolicy) (c : Client) (share cap presence rank : Nat) :
    PerClient ClientPolicy :=
  let ranked : PerClient ClientPolicy :=
    ⟨{ p.nr with rank := swappedRank p c rank .nr }, { p.sr with rank := swappedRank p c rank .sr },
      { p.ar with rank := swappedRank p c rank .ar }⟩
  ranked.set c { ranked.get c with share := share, cap := cap, presence := presence }

/-- A changed share recomputes the client's penalty from its present usage (R14). -/
def State.shareChanged (s : State) (c : Client) (old : Nat) : State :=
  if (s.policy.clients.get c).share = old then s
  else { s with acct := { s.acct with penalty := s.acct.penalty.set c (s.penaltyNow c) } }

/-- The effects of a SET CLIENT on client `c`, with its values saturated (R160, R14, R37, R106). -/
def State.setClient (s : State) (c : Client) (share cap presence rank : Nat) : State :=
  let old := s.policy.clients.get c
  let t : State := { s with policy := { s.policy with
    clients := writtenClients s.policy.clients c share cap presence rank } }
  (((t.shareChanged c old.share).presenceChanged c old.presence).giveNoticeIf
    (old.share != share || old.cap != cap) c .policy).stateCheck

/-- SET CLIENT (R160). -/
def execSetClient (client share : Byte) (cap : BitVec 16) (presence rank : Byte) (s : State) : Out :=
  s.whenRunning fun s =>
    match clientOfIndex client.toNat with
    | none => s.refuseWrite .range
    | some c =>
      (s.setClient c (saturate 0 64 share.toNat) (saturate 0 1024 cap.toNat) presence.toNat
          (saturate 0 2 rank.toNat)).finishWrite
        (clampedIf (outside 0 64 share.toNat || outside 0 1024 cap.toNat || outside 0 2 rank.toNat)) []

/-- SET WINDOW: N and R stored, the window restarted, and the arbiter's check (R161, R10, R106). -/
def execSetWindow (n r : Byte) (s : State) : Out :=
  s.whenRunning fun s =>
    ((s.restartWindow (saturate 3 255 n.toNat) (saturate 1 16 r.toNat)).stateCheck).finishWrite
      (clampedIf (outside 3 255 n.toNat || outside 1 16 r.toNat)) []

/-- The default position a byte names, brought into 0..2 (R161). -/
def positionOf (b : Byte) : Client := (clientOfIndex (saturate 0 2 b.toNat)).getD .nr

/-- A change of the default position from `old`: in FREE or PARKING the switch moves to the new one with a new
guard; in SETTLING and HELD nothing moves (R105). -/
def State.defaultMoved (s : State) (old : Client) : State :=
  if s.policy.defaultPos = old ∨ s.arb.position = s.policy.defaultPos then s
  else
    match s.arb.mode with
    | .free => s.passZeroGuard s.moveToDefault
    | .parking _ => s.passZeroGuard s.moveToDefault
    | _ => s

/-- The effects of a SET ARBITER with its values saturated: all five stored, the default position acted on, the
masks recomputed where g changed, and the arbiter's check (R104, R105, R134, R161). -/
def State.setArbiter (s : State) (guardTime margin aging : Nat) (position : Client) (channelGuard : Nat) :
    State :=
  let t : State := { s with policy := { s.policy with
    guardTime := guardTime, margin := margin, agingInterval := aging, defaultPos := position,
    channelGuard := channelGuard } }
  let u := t.defaultMoved s.policy.defaultPos
  (if s.policy.channelGuard = channelGuard then u else u.recompute u.channel.note).stateCheck

/-- SET ARBITER (R161). -/
def execSetArbiter (guardTime margin aging position channelGuard : Byte) (s : State) : Out :=
  s.whenRunning fun s =>
    (s.setArbiter (saturate 0 63 guardTime.toNat) (saturate 1 63 margin.toNat)
        (saturate 1 50 aging.toNat * Config.agingUnit) (positionOf position)
        (saturate 0 15 channelGuard.toNat)).finishWrite
      (clampedIf (outside 0 63 guardTime.toNat || outside 1 63 margin.toNat || outside 1 50 aging.toNat ||
        outside 0 2 position.toNat || outside 0 15 channelGuard.toNat)) []

/-- SET ATTN MASK (R166). -/
def execSetAttnMask (mask : BitVec 16) (s : State) : Out :=
  s.whenRunning fun s =>
    ({ s with port := { s.port with attnMask := portMask mask } } : State).finishWrite .ok []

end Sys2Proof.Machine
end

