-- ==== Sys2Proof/Machine/ResetEvents.lean ====
section
/-!
DEFINITION. RESET_END and RESETN_LOW (R1, R109).
-/

namespace Sys2Proof.Machine

/-- RESET_END: the rise of RESETN (R1, R109). It ends a RESETN low, so every block is at its power-on state
whatever stood before (log entry 3); the straps, the REQ and PRIO levels and the SEL levels are sampled
(R155, R112, R138). -/
def execResetEnd (pins : ResetPins) (s : State) : Out :=
  .next (State.powerOn pins s.freeIndex s.pending)

/-- RESETN_LOW: the part held in reset (R109). -/
def execResetnLow (s : State) : Out := .next s.resetHeld

end Sys2Proof.Machine
end

