-- ==== Sys2Proof/Machine/TimerEvents.lean ====
section
/-!
DEFINITION. The events the air clock brings about by reaching a deadline (R2): AGING_EXPIRY, HOLD_EXPIRY,
PRESENCE_EXPIRY, START_REACHED, MISS, OCCURRENCE_END, SUSPENDED_STEP, ONESHOT_EXPIRED, GUARD_END_SETTLING,
GUARD_END_PARKING, ROLLOVER, PENALTY_CROSSING.

Each acts only while its deadline exists and has been reached; otherwise there is no such event to take, and
nothing changes (log entry 5).
-/

namespace Sys2Proof.Machine

/-! ## Live claims and presence -/

/-- Whether the aging deadline of the client's WAITING live claim has been reached (R116). -/
def State.agingDue (s : State) (c : Client) : Bool :=
  match (s.live.get c).state with
  | .waiting _ d => reached s.clock d
  | _ => false

/-- The live claim with its aging deadline moved on by the interval in force (R116). -/
def LiveClaim.nextAging (l : LiveClaim) (interval : Nat) : LiveClaim :=
  match l.state with
  | .waiting u d => { l with state := .waiting u (after d interval) }
  | _ => l

/-- Whether the streak of the flow bound to the client's live claim can still rise (R53). -/
def State.boundStreakRises (s : State) (c : Client) : Bool :=
  match (s.live.get c).binding.bind s.flowAt with
  | none => false
  | some f => decide (f.streak < Config.streakMax)

/-- AGING_EXPIRY (R116). -/
def execAgingExpiry (c : Client) (s : State) : Out :=
  s.whenRunning fun s =>
    if s.agingDue c then
      ((s.onBoundFlow c Flow.aged).onLive c fun l => l.nextAging s.policy.agingInterval).stateCheckIf
        (s.boundStreakRises c)
    else s

/-- Whether the hold deadline of the client's HOLDING live claim has been reached (R120). -/
def State.holdDue (s : State) (c : Client) : Bool :=
  match (s.live.get c).state with
  | .holding _ _ d => reached s.clock d
  | _ => false

/-- HOLD_EXPIRY (R120). -/
def execHoldExpiry (c : Client) (s : State) : Out :=
  s.whenRunning fun s => if s.holdDue c then s.expireHold c else s

/-- Whether the presence deadline of an OPENING or ACTIVE client has been reached (R31). -/
def State.presenceDue (s : State) (c : Client) : Bool :=
  s.admitted c &&
    match (s.sup.get c).deadline with
    | none => false
    | some d => reached s.clock d

/-- PRESENCE_EXPIRY (R31 to R33). -/
def execPresenceExpiry (c : Client) (s : State) : Out :=
  s.whenRunning fun s => if s.presenceDue c then s.silence c else s

/-! ## Plan entries -/

/-- Whether a SCHEDULED entry's nominal start has been reached (R68). -/
def Entry.startDue (e : Entry) (now : AirTime) : Bool := e.status == .scheduled && reached now e.start

/-- Whether a DUE entry's miss deadline has been reached (R71). -/
def Entry.missDue (e : Entry) (now : AirTime) : Bool := e.isDue && reached now e.missDeadline

/-- Whether a HOLDING entry's occurrence end has been reached (R70). -/
def Entry.endDue (e : Entry) (now : AirTime) : Bool :=
  match e.status with
  | .holding g => reached now (e.occurrenceEnd g)
  | _ => false

/-- Whether a suspended periodic entry's nominal start has been reached (R79). -/
def Entry.stepDue (e : Entry) (now : AirTime) : Bool :=
  e.isSuspended && decide (e.period ≠ 0) && reached now e.start

/-- Whether the window of a suspended one-shot, not yet marked expired, has ended (R79). -/
def Entry.expiryDue (e : Entry) (now : AirTime) : Bool :=
  e.status == .suspended false && decide (e.period = 0) && reached now e.windowEnd

/-- START_REACHED (R68). -/
def execStartReached (n : Fin 32) (s : State) : Out := s.whenRunning fun s => s.wake n.val

/-- The occurrence of a DUE entry is missed (R71): the flow's Missed counter and streak, MISSED, the window's miss
count, the advance, the arbiter's answer to the withdrawal, its check where the raised streak has a waiting
claim left to raise (R53, R54), and the entry DUE again at once where its new start has been reached. -/
def State.missOccurrence (s : State) (e : Entry) : State :=
  let rises := match s.flowAt e.flow with
    | none => false
    | some f => decide (f.streak < Config.streakMax)
  let t := (((s.onFlow e.flow Flow.missedOne).countMiss).giveNotice e.owner .missed).advanceEntry e
  ((s.claimsLeft t e.owner).stateCheckIf (rises && t.flowWaits e.owner e.flow)).wake e.number

/-- MISS (R71). -/
def execMiss (n : Fin 32) (s : State) : Out :=
  s.whenRunning fun s =>
    match s.entryAt n.val with
    | none => s
    | some e => if e.missDue s.clock then s.missOccurrence e else s

/-- The occurrence of a HOLDING entry is served (R70): the flow's Served counter and the advance, with the new
occurrence joining at once where its start has been reached (R68, R73), then the arbiter's answer to the end
of the holding claim (R98). -/
def State.serveOccurrence (s : State) (e : Entry) : State :=
  s.claimsLeft (((s.onFlow e.flow Flow.servedOne).advanceEntry e).wake e.number) e.owner

/-- OCCURRENCE_END (R70). -/
def execOccurrenceEnd (n : Fin 32) (s : State) : Out :=
  s.whenRunning fun s =>
    match s.entryAt n.val with
    | none => s
    | some e => if e.endDue s.clock then s.serveOccurrence e else s

/-- SUSPENDED_STEP: the nominal start rises by one period, nothing counted or reported (R79). -/
def execSuspendedStep (n : Fin 32) (s : State) : Out :=
  s.whenRunning fun s =>
    s.onEntry n.val fun e => some (if e.stepDue s.clock then { e with start := after e.start e.period } else e)

/-- ONESHOT_EXPIRED: the one-shot is marked expired (R79). -/
def execOneshotExpired (n : Fin 32) (s : State) : Out :=
  s.whenRunning fun s =>
    s.onEntry n.val fun e => some (if e.expiryDue s.clock then { e with status := .suspended true } else e)

/-! ## Guard, window and penalty -/

/-- GUARD_END_SETTLING: the next holder is granted (R96). -/
def execGuardEndSettling (s : State) : Out :=
  s.whenRunning fun s =>
    match s.arb.mode with
    | .settling c g => if reached s.clock g then s.grant c else s
    | _ => s

/-- GUARD_END_PARKING: the arbiter enters FREE (R97). -/
def execGuardEndParking (s : State) : Out :=
  s.whenRunning fun s =>
    match s.arb.mode with
    | .parking g => if reached s.clock g then s.setMode .free else s
    | _ => s

/-- The end of the current window: window start + W (R4). -/
def State.windowEnd (s : State) : AirTime := after s.acct.windowStart s.window

/-- ROLLOVER (R8). -/
def execRollover (s : State) : Out :=
  s.whenRunning fun s => if reached s.clock s.windowEnd then s.doRollover else s

/-- Whether the holder's usage has reached a threshold above its penalty (R13). -/
def State.penaltyDue (s : State) : Bool :=
  match s.arb.mode with
  | .held c => decide (s.acct.penalty.get c < s.penaltyNow c)
  | _ => false

/-- PENALTY_CROSSING: the holder's penalty rises to what R12 gives for its usage, and the arbiter makes a
preemption check (R13, R103). -/
def execPenaltyCrossing (s : State) : Out :=
  s.whenRunning fun s =>
    match s.arb.mode with
    | .held c =>
      if s.penaltyDue then
        ({ s with acct := { s.acct with penalty := s.acct.penalty.set c (s.penaltyNow c) } } : State).stateCheck
      else s
    | _ => s

end Sys2Proof.Machine
end

