-- ==== Sys2Proof/Machine/Dispatch.lean ====
section
/-!
DEFINITION. The dispatch of a command to its meaning, one arm per row of spec/opcode_table.json.
-/

namespace Sys2Proof.Machine

/-- A command's effect on everything but the queue. -/
def exec (i : Instr) (s : State) : Host.Outcome State Fault Refusal :=
  match i with
  | .resetEnd pins => Sys2Proof.Machine.execResetEnd pins s
  | .resetnLow => Sys2Proof.Machine.execResetnLow s
  | .replyCapture c => Sys2Proof.Machine.execReplyCapture c s
  | .pause c => Sys2Proof.Machine.execPause c s
  | .frameRejected c cause => Sys2Proof.Machine.execFrameRejected c cause s
  | .selectTimeout c => Sys2Proof.Machine.execSelectTimeout c s
  | .present c value => Sys2Proof.Machine.execPresent c value s
  | .attach c value => Sys2Proof.Machine.execAttach c value s
  | .detach c value => Sys2Proof.Machine.execDetach c value s
  | .openFlow c value => Sys2Proof.Machine.execOpenFlow c value s
  | .closeFlow c value => Sys2Proof.Machine.execCloseFlow c value s
  | .reclass c value => Sys2Proof.Machine.execReclass c value s
  | .bindLive c value => Sys2Proof.Machine.execBindLive c value s
  | .post c value => Sys2Proof.Machine.execPost c value s
  | .retime c value => Sys2Proof.Machine.execRetime c value s
  | .cancel c value => Sys2Proof.Machine.execCancel c value s
  | .channelNote c value => Sys2Proof.Machine.execChannelNote c value s
  | .fetchTime c arg => Sys2Proof.Machine.execFetchTime c arg s
  | .fetchStatus c arg => Sys2Proof.Machine.execFetchStatus c arg s
  | .fetchNotes c arg => Sys2Proof.Machine.execFetchNotes c arg s
  | .fetchAccount c arg => Sys2Proof.Machine.execFetchAccount c arg s
  | .fetchLast c arg => Sys2Proof.Machine.execFetchLast c arg s
  | .fetchMask c part arg => Sys2Proof.Machine.execFetchMask c part arg s
  | .fetchFlow c arg => Sys2Proof.Machine.execFetchFlow c arg s
  | .fetchFlowcount c arg => Sys2Proof.Machine.execFetchFlowcount c arg s
  | .fetchEntry c arg => Sys2Proof.Machine.execFetchEntry c arg s
  | .clearNotes c value => Sys2Proof.Machine.execClearNotes c value s
  | .parameterFrame c index value => Sys2Proof.Machine.execParameterFrame c index value s
  | .reservedFrame c kind code value => Sys2Proof.Machine.execReservedFrame c kind code value s
  | .reqRise c => Sys2Proof.Machine.execReqRise c s
  | .reqFall c => Sys2Proof.Machine.execReqFall c s
  | .prioEdge c level => Sys2Proof.Machine.execPrioEdge c level s
  | .agingExpiry c => Sys2Proof.Machine.execAgingExpiry c s
  | .holdExpiry c => Sys2Proof.Machine.execHoldExpiry c s
  | .presenceExpiry c => Sys2Proof.Machine.execPresenceExpiry c s
  | .startReached n => Sys2Proof.Machine.execStartReached n s
  | .miss n => Sys2Proof.Machine.execMiss n s
  | .occurrenceEnd n => Sys2Proof.Machine.execOccurrenceEnd n s
  | .suspendedStep n => Sys2Proof.Machine.execSuspendedStep n s
  | .oneshotExpired n => Sys2Proof.Machine.execOneshotExpired n s
  | .guardEndSettling => Sys2Proof.Machine.execGuardEndSettling s
  | .guardEndParking => Sys2Proof.Machine.execGuardEndParking s
  | .rollover => Sys2Proof.Machine.execRollover s
  | .penaltyCrossing => Sys2Proof.Machine.execPenaltyCrossing s
  | .setClass code base step flags holdLimit => Sys2Proof.Machine.execSetClass code base step flags holdLimit s
  | .setClient client share cap presence rank => Sys2Proof.Machine.execSetClient client share cap presence rank s
  | .setWindow n r => Sys2Proof.Machine.execSetWindow n r s
  | .setArbiter guardTime margin aging position channelGuard => Sys2Proof.Machine.execSetArbiter guardTime margin aging position channelGuard s
  | .freezePlan client state => Sys2Proof.Machine.execFreezePlan client state s
  | .pinFlow slot code => Sys2Proof.Machine.execPinFlow slot code s
  | .unpinFlow slot => Sys2Proof.Machine.execUnpinFlow slot s
  | .dropEntry entry => Sys2Proof.Machine.execDropEntry entry s
  | .evict client => Sys2Proof.Machine.execEvict client s
  | .revive client => Sys2Proof.Machine.execRevive client s
  | .startSurvey k => Sys2Proof.Machine.execStartSurvey k s
  | .stopSurvey => Sys2Proof.Machine.execStopSurvey s
  | .restart => Sys2Proof.Machine.execRestart s
  | .setAttnMask mask => Sys2Proof.Machine.execSetAttnMask mask s
  | .clearNotices mask => Sys2Proof.Machine.execClearNotices mask s
  | .readNotices => Sys2Proof.Machine.execReadNotices s
  | .readClient client => Sys2Proof.Machine.execReadClient client s
  | .readAccount client => Sys2Proof.Machine.execReadAccount client s
  | .readFlow slot => Sys2Proof.Machine.execReadFlow slot s
  | .readEntry entry => Sys2Proof.Machine.execReadEntry entry s
  | .readPlanOrder => Sys2Proof.Machine.execReadPlanOrder s
  | .readAir => Sys2Proof.Machine.execReadAir s
  | .readChannel => Sys2Proof.Machine.execReadChannel s
  | .readSurvey => Sys2Proof.Machine.execReadSurvey s
  | .discardedWrite cause => Sys2Proof.Machine.execDiscardedWrite cause s
  | .emptyWrite => Sys2Proof.Machine.execEmptyWrite s
  | .abortedFrameEnd c => Sys2Proof.Machine.execAbortedFrameEnd c s
  | .selRiseAfterReset c => Sys2Proof.Machine.execSelRiseAfterReset c s
  | .fetchItemAbove11 c item arg => Sys2Proof.Machine.execFetchItemAbove11 c item arg s

end Sys2Proof.Machine
end

