-- ==== Sys2Proof/Machine/Idle.lean ====
section
/-!
DEFINITION. What the part does when no command waits (log entries 2 and 5): an internal event whose deadline has been
reached is taken; when none is due, the air clock rises by 1 (R1, R2).
-/

namespace Sys2Proof.Machine

/-- The events of a client that are due now. -/
def State.clientEvents (s : State) (c : Client) : List Instr :=
  (if s.selectDue c then [.selectTimeout c] else []) ++
    (if s.agingDue c then [.agingExpiry c] else []) ++
    (if s.holdDue c then [.holdExpiry c] else []) ++
    (if s.presenceDue c then [.presenceExpiry c] else [])

/-- The event of a plan entry that is due now, for an entry number 0..31. -/
def Entry.dueEvent (e : Entry) (now : AirTime) : List Instr :=
  if h : e.number < 32 then
    if e.startDue now then [.startReached ⟨e.number, h⟩]
    else if e.missDue now then [.miss ⟨e.number, h⟩]
    else if e.endDue now then [.occurrenceEnd ⟨e.number, h⟩]
    else if e.stepDue now then [.suspendedStep ⟨e.number, h⟩]
    else if e.expiryDue now then [.oneshotExpired ⟨e.number, h⟩]
    else []
  else []

/-- The event of the running guard, when its end is due now (R96, R97). -/
def State.guardEvents (s : State) : List Instr :=
  match s.arb.mode with
  | .settling _ g => if reached s.clock g then [.guardEndSettling] else []
  | .parking g => if reached s.clock g then [.guardEndParking] else []
  | _ => []

/-- The internal events that are due now: every event of a deadline that has been reached (R2). -/
def State.dueEvents (s : State) : List Instr :=
  s.clientEvents .nr ++ s.clientEvents .sr ++ s.clientEvents .ar ++
    s.plan.flatMap (fun e => e.dueEvent s.clock) ++ s.guardEvents ++
    (if s.penaltyDue then [.penaltyCrossing] else []) ++
    (if reached s.clock s.windowEnd then [.rollover] else [])

/-- The end of a microsecond: the air clock rises by 1, wrapping (R1). -/
def State.tick (s : State) : State := { s with clock := s.clock + 1 }

/-- One step with no command waiting: while RESETN is low the part idles; otherwise a due event is taken, which
one of several being a free choice, or, with none due, the air clock ticks. -/
def idleStep (s : State) : Out :=
  if s.resetn then
    match s.dueEvents with
    | [] => .next s.tick
    | [e] => exec e s
    | es =>
      match es[Config.eventChoice s.freeIndex % es.length]? with
      | none => .next s
      | some e => exec e { s with freeIndex := s.freeIndex + 1 }
  else .next s

end Sys2Proof.Machine
end

