-- ==== Sys2Proof/Decode.lean ====
section
/-!
DEFINITION. From bits to commands: the frames of a radio link (R139, R142, R143, R145), the writes of the platform port
(R156, R157), and the word the host asks about. The rows of spec/opcode_table.json carry no bits of their own.
-/

namespace Sys2Proof

open Sys2Proof.Machine

/-! ## Radio frames -/

/-- FETCH: the row of an item code, with its argument (R145). -/
def fetchOf (c : Client) (item : BitVec 8) (arg : BitVec 16) : Instr :=
  match item.toNat with
  | 0 => .fetchTime c arg
  | 1 => .fetchStatus c arg
  | 2 => .fetchNotes c arg
  | 3 => .fetchAccount c arg
  | 4 => .fetchLast c arg
  | 5 => .fetchMask c 0 arg
  | 6 => .fetchMask c 1 arg
  | 7 => .fetchMask c 2 arg
  | 8 => .fetchMask c 3 arg
  | 9 => .fetchFlow c arg
  | 10 => .fetchFlowcount c arg
  | 11 => .fetchEntry c arg
  | _ => .fetchItemAbove11 c item arg

/-- KIND 0: the row of a command code; 13..31 name no command (R142, R143). -/
def commandOf (c : Client) (code : BitVec 5) (value : Value) : Instr :=
  match code.toNat with
  | 0 => .present c value
  | 1 => .attach c value
  | 2 => .detach c value
  | 3 => .openFlow c value
  | 4 => .closeFlow c value
  | 5 => .reclass c value
  | 6 => .bindLive c value
  | 7 => .post c value
  | 8 => .retime c value
  | 9 => .cancel c value
  | 10 => .channelNote c value
  | 11 => fetchOf c (value.extractLsb' 16 8) (value.extractLsb' 0 16)
  | 12 => .clearNotes c value
  | _ => .reservedFrame c 0 code value

/-- A passing frame read as KIND, CODE and VALUE (R142). -/
def frameFields (c : Client) (kind : BitVec 2) (code : BitVec 5) (value : Value) : Instr :=
  match kind.toNat with
  | 0 => commandOf c code value
  | 1 => .parameterFrame c code value
  | _ => .reservedFrame c kind code value

/-- The row a SEL rise brings about on a link, from the rising edges counted and the bits sampled (R139): a pause, a
rejected frame, or a passing frame decoded by R142. -/
def decodeFrame (c : Client) (edges : Nat) (bits : FrameWord) : Instr :=
  if edges = 0 then .pause c
  else if edges < 32 then .frameRejected c (.short edges)
  else if 32 < edges then .frameRejected c (.long edges)
  else if bits = 0 then .frameRejected c (.stuck false)
  else if bits = BitVec.allOnes 32 then .frameRejected c (.stuck true)
  else if oddParity bits = false then .frameRejected c (.parity bits)
  else frameFields c (bits.extractLsb' 30 2) (bits.extractLsb' 25 5) (bits.extractLsb' 1 24)

/-- The frame of a KIND, CODE and VALUE, P making its parity odd (R142). -/
def frameOf (kind : BitVec 2) (code : BitVec 5) (value : Value) : FrameWord :=
  if oddParity (kind ++ code ++ value ++ 0#1) then kind ++ code ++ value ++ 0#1
  else kind ++ code ++ value ++ 1#1

/-- The frame of a FETCH (R143). -/
def fetchFrame (item : BitVec 8) (arg : BitVec 16) : FrameWord := frameOf 0 11 (item ++ arg)

/-- The client whose link a frame row travels on, and the frame; none for a row that is no passing frame. -/
def encodeFrame (i : Instr) : Option (Client × FrameWord) :=
  match i with
  | .present c v => some (c, frameOf 0 0 v)
  | .attach c v => some (c, frameOf 0 1 v)
  | .detach c v => some (c, frameOf 0 2 v)
  | .openFlow c v => some (c, frameOf 0 3 v)
  | .closeFlow c v => some (c, frameOf 0 4 v)
  | .reclass c v => some (c, frameOf 0 5 v)
  | .bindLive c v => some (c, frameOf 0 6 v)
  | .post c v => some (c, frameOf 0 7 v)
  | .retime c v => some (c, frameOf 0 8 v)
  | .cancel c v => some (c, frameOf 0 9 v)
  | .channelNote c v => some (c, frameOf 0 10 v)
  | .fetchTime c a => some (c, fetchFrame 0 a)
  | .fetchStatus c a => some (c, fetchFrame 1 a)
  | .fetchNotes c a => some (c, fetchFrame 2 a)
  | .fetchAccount c a => some (c, fetchFrame 3 a)
  | .fetchLast c a => some (c, fetchFrame 4 a)
  | .fetchMask c p a => some (c, fetchFrame (5 + p.setWidth 8) a)
  | .fetchFlow c a => some (c, fetchFrame 9 a)
  | .fetchFlowcount c a => some (c, fetchFrame 10 a)
  | .fetchEntry c a => some (c, fetchFrame 11 a)
  | .fetchItemAbove11 c item a => some (c, fetchFrame item a)
  | .clearNotes c v => some (c, frameOf 0 12 v)
  | .parameterFrame c index v => some (c, frameOf 1 index v)
  | .reservedFrame c kind code v => some (c, frameOf kind code v)
  | _ => none

/-! ## Platform writes -/

/-- The fixed count of parameter bytes of a command byte; none where it names no command (R157). -/
def parameterCount (command : Byte) : Option Nat :=
  match command.toNat with
  | 0x01 => some 6
  | 0x02 => some 6
  | 0x03 => some 2
  | 0x04 => some 5
  | 0x05 => some 2
  | 0x06 => some 2
  | 0x07 => some 1
  | 0x08 => some 1
  | 0x09 => some 1
  | 0x0A => some 1
  | 0x0B => some 1
  | 0x0C => some 0
  | 0x0D => some 0
  | 0x0E => some 2
  | 0x0F => some 2
  | 0x20 => some 0
  | 0x21 => some 1
  | 0x22 => some 1
  | 0x23 => some 1
  | 0x24 => some 1
  | 0x25 => some 0
  | 0x26 => some 0
  | 0x27 => some 0
  | 0x28 => some 0
  | _ => none

/-- The row of a command byte with its parameter bytes in order (R157). -/
def commandBytes (command : Byte) (parameters : List Byte) : Option Instr :=
  match command.toNat, parameters with
  | 0x01, [k, b, a, f, h1, h0] => some (.setClass k b a f (h1 ++ h0))
  | 0x02, [c, s, r1, r0, p, t] => some (.setClient c s (r1 ++ r0) p t)
  | 0x03, [n, r] => some (.setWindow n r)
  | 0x04, [g, m, a, p, x] => some (.setArbiter g m a p x)
  | 0x05, [c, x] => some (.freezePlan c x)
  | 0x06, [k, x] => some (.pinFlow k x)
  | 0x07, [k] => some (.unpinFlow k)
  | 0x08, [n] => some (.dropEntry n)
  | 0x09, [c] => some (.evict c)
  | 0x0A, [c] => some (.revive c)
  | 0x0B, [k] => some (.startSurvey k)
  | 0x0C, [] => some .stopSurvey
  | 0x0D, [] => some .restart
  | 0x0E, [m1, m0] => some (.setAttnMask (m1 ++ m0))
  | 0x0F, [m1, m0] => some (.clearNotices (m1 ++ m0))
  | 0x20, [] => some .readNotices
  | 0x21, [c] => some (.readClient c)
  | 0x22, [c] => some (.readAccount c)
  | 0x23, [k] => some (.readFlow k)
  | 0x24, [n] => some (.readEntry n)
  | 0x25, [] => some .readPlanOrder
  | 0x26, [] => some .readAir
  | 0x27, [] => some .readChannel
  | 0x28, [] => some .readSurvey
  | _, _ => none

/-- The row a write to the port brings about at its end, from its data bytes in order and whether it ended within a
byte (R156, R157). A write with no data byte is empty; one that ended within its first data byte ended within a
byte, which step 2 of R156 refuses (log entry 8). -/
def decodeWrite (bytes : List Byte) (midByte : Bool) : Instr :=
  match bytes with
  | [] => if midByte then .discardedWrite .noCommand else .emptyWrite
  | command :: parameters =>
    match parameterCount command with
    | none => .discardedWrite (.unknown command)
    | some _ =>
      match commandBytes command parameters with
      | none => .discardedWrite (.length command parameters.length midByte)
      | some i =>
        if midByte then .discardedWrite (.length command parameters.length midByte) else i

/-- A 16-bit operand as its two bytes, most significant first (R157). -/
def twoBytes (w : BitVec 16) : List Byte := [w.extractLsb' 8 8, w.extractLsb' 0 8]

/-- The data bytes of the write a row stands for; none for a row that is no executed write. -/
def encodeWrite (i : Instr) : Option (List Byte) :=
  match i with
  | .setClass k b a f h => some ([0x01, k, b, a, f] ++ twoBytes h)
  | .setClient c s r p t => some ([0x02, c, s] ++ twoBytes r ++ [p, t])
  | .setWindow n r => some [0x03, n, r]
  | .setArbiter g m a p x => some [0x04, g, m, a, p, x]
  | .freezePlan c x => some [0x05, c, x]
  | .pinFlow k x => some [0x06, k, x]
  | .unpinFlow k => some [0x07, k]
  | .dropEntry n => some [0x08, n]
  | .evict c => some [0x09, c]
  | .revive c => some [0x0A, c]
  | .startSurvey k => some [0x0B, k]
  | .stopSurvey => some [0x0C]
  | .restart => some [0x0D]
  | .setAttnMask m => some (0x0E :: twoBytes m)
  | .clearNotices m => some (0x0F :: twoBytes m)
  | .readNotices => some [0x20]
  | .readClient c => some [0x21, c]
  | .readAccount c => some [0x22, c]
  | .readFlow k => some [0x23, k]
  | .readEntry n => some [0x24, n]
  | .readPlanOrder => some [0x25]
  | .readAir => some [0x26]
  | .readChannel => some [0x27]
  | .readSurvey => some [0x28]
  | _ => none

/-! ## The host's words -/

/-- The command a word spells by the table's bits: none, since no row of spec/opcode_table.json gives bits. -/
def decodeTableWord (_nbits _w : Nat) : Option Instr := none

end Sys2Proof
end

