-- ==== Sys2Proof/Machine/Pins.lean ====
section
/-!
DEFINITION. The pins below the rows: the clocking of a radio link within one SEL low period (R138), the two-sample
confirmation of the REQ and PRIO lines (R113), and the two-wire bus of the platform port (R155, R156, R158). Each
is a plain function from what the pins do to the row of spec/opcode_table.json it brings about; the state between
rows needs none of it (log entry 7).
-/

namespace Sys2Proof.Machine

/-! ## One SEL low period of a link (R138, R139) -/

/-- What a link has counted and sampled since SEL fell: rising edges of CLK, the first 32 bits, how often DO has
moved, and whether a rising edge came since the last falling one. -/
structure Shift where
  edges : Nat
  bits : FrameWord
  moved : Nat
  risen : Bool
  deriving DecidableEq, Repr

/-- At the SEL fall. -/
def Shift.start : Shift := ⟨0, 0, 0, false⟩

/-- A rising edge of CLK samples DI; bits past the 32nd are not kept (R138, R139). -/
def Shift.clkRise (x : Shift) (di : Bool) : Shift :=
  { x with
    edges := x.edges + 1
    bits := if x.edges < 32 then x.bits <<< 1 ||| (if di then 1 else 0) else x.bits
    risen := true }

/-- A falling edge that follows a rising edge moves DO on (R138). -/
def Shift.clkFall (x : Shift) : Shift :=
  if x.risen then { x with moved := x.moved + 1, risen := false } else x

/-- The level of DO, none for high-impedance: bit 31 of the reply from the SEL fall, one bit lower with each move,
low after the falling edge that follows the 32nd rising edge (R138); high-impedance outside a frame (R138,
R140). -/
def State.doLevel (s : State) (c : Client) (x : Shift) : Option Bool :=
  match s.resetn, (s.links.get c).receive with
  | true, .inFrame _ reply _ _ => some (decide (x.moved < 32) && reply.getLsbD (31 - x.moved))
  | _, _ => none

/-- The row a SEL rise brings about (R138, R139, R140). -/
def State.selRise (s : State) (c : Client) (x : Shift) : Instr :=
  match (s.links.get c).receive with
  | .aborted => .abortedFrameEnd c
  | .awaitingRise => .selRiseAfterReset c
  | _ => decodeFrame c x.edges x.bits

/-! ## The request lines (R113) -/

/-- The confirmation of one line: its recorded level, and whether the last sample differed from it. -/
structure LineFilter where
  recorded : Bool
  differed : Bool
  deriving DecidableEq, Repr

/-- One REFCLK sample: the new filter, and whether it confirms an edge, two samples in a row having differed. -/
def LineFilter.sample (f : LineFilter) (level : Bool) : LineFilter × Bool :=
  if level = f.recorded then ({ f with differed := false }, false)
  else if f.differed then (⟨level, false⟩, true)
  else ({ f with differed := true }, false)

/-- The rows one REFCLK sample of a client's two lines brings about: a confirmed PRIO change is applied before the
REQ edge that the same sample confirms (R113). -/
def lineRows (c : Client) (req prio : LineFilter) (reqLevel prioLevel : Bool) : List Instr :=
  (if (prio.sample prioLevel).2 then [.prioEdge c prioLevel] else []) ++
    (if (req.sample reqLevel).2 then [if reqLevel then .reqRise c else .reqFall c] else [])

/-! ## The two-wire bus (R155, R156, R158) -/

/-- Where a transaction stands: no transaction; the address byte; the data bytes of a write to the port; the bytes of
a read from the port, with the index of the byte and the bits of it gone; or a transaction that is not, or no
longer, the port's. -/
inductive BusPhase where
  | quiet
  | address (bits : List Bool)
  | writing (bytes : List Byte) (bits : List Bool)
  | reading (index sent : Nat)
  | ignoring
  deriving DecidableEq, Repr

/-- The bus as the port follows it: the last levels of SCL and SDA, the SDA level sampled at the last rise of SCL
while that clock pulse lasts, and the phase. -/
structure Bus where
  scl : Bool
  sda : Bool
  sampled : Option Bool
  phase : BusPhase
  deriving DecidableEq, Repr

/-- Eight bits as a byte, most significant first (R155). -/
def byteOfBits (bits : List Bool) : Byte :=
  bits.foldl (fun acc b => acc <<< 1 ||| (if b then 1 else 0)) 0

/-- Whether an address byte holds the port's address (R155). -/
def State.addressed (s : State) (bits : List Bool) : Bool :=
  (byteOfBits bits).extractLsb' 1 7 == s.portAddress

/-- The row a STOP or a repeated START brings about: the end of a write to the port (R156). -/
def BusPhase.ended : BusPhase → Option Instr
  | .writing bytes bits => some (decodeWrite bytes (!bits.isEmpty))
  | _ => none

/-- A whole clock pulse with SDA at `level`: the phase takes a bit, the ninth of each byte being the acknowledge
(R155). In a read the port goes on while the controller acknowledges (level low). -/
def State.busBit (s : State) (p : BusPhase) (level : Bool) : BusPhase :=
  match p with
  | .address bits =>
    if bits.length < 8 then .address (bits ++ [level])
    else if s.addressed bits then
      if (byteOfBits bits).getLsbD 0 then .reading 0 0 else .writing [] []
    else .ignoring
  | .writing bytes bits =>
    if bits.length < 8 then .writing bytes (bits ++ [level])
    else .writing (bytes ++ [byteOfBits bits]) []
  | .reading index sent =>
    if sent < 8 then .reading index (sent + 1)
    else if level then .ignoring
    else .reading (index + 1) 0
  | x => x

/-- New levels of SCL and SDA: START, STOP, and the clock pulses between them, with the row that a write's end
brings about (R155, R156). While RESETN is low the port ignores the bus. -/
def State.busLevels (s : State) (b : Bus) (scl sda : Bool) : Bus × Option Instr :=
  if s.resetn = false then (⟨scl, sda, none, .quiet⟩, none)
  else if b.scl && scl && b.sda && !sda then (⟨scl, sda, none, .address []⟩, b.phase.ended)
  else if b.scl && scl && !b.sda && sda then (⟨scl, sda, none, .quiet⟩, b.phase.ended)
  else if !b.scl && scl then (⟨scl, sda, some sda, b.phase⟩, none)
  else if b.scl && !scl then
    match b.sampled with
    | none => (⟨scl, sda, none, b.phase⟩, none)
    | some level => (⟨scl, sda, none, s.busBit b.phase level⟩, none)
  else (⟨scl, sda, b.sampled, b.phase⟩, none)

/-- Whether the port pulls SDA low: its acknowledge of its address and of every data byte of a write, and the 0 bits
of the bytes it returns (R155, R158). It never holds SCL low. -/
def State.pullsSda (s : State) (p : BusPhase) : Bool :=
  s.resetn &&
    match p with
    | .address bits => decide (bits.length = 8) && s.addressed bits
    | .writing _ bits => decide (bits.length = 8)
    | .reading index sent =>
      decide (sent < 8) && !(((s.readBytes (index + 1)).getD index 0).getLsbD (7 - sent))
    | _ => false

end Sys2Proof.Machine
end

