-- ==== Sys2Proof/WellFormed.lean ====
section
/-!
DEFINITION. Which operands a row admits: the cases of R139, R142, R147 and R156 that make a row what it is. Every
other operand is admitted at every value.
-/

namespace Sys2Proof

open Sys2Proof.Machine

/-- A cause of rejection as R139 classifies it. -/
def FrameFault.wellFormed : FrameFault → Bool
  | .short n => decide (1 ≤ n) && decide (n ≤ 31)
  | .long n => decide (33 ≤ n)
  | .parity w => !(oddParity w) && w != 0 && w != BitVec.allOnes 32
  | .stuck _ => true

/-- A cause of discarding as R156 gives it, steps 1 and 2. -/
def WriteFault.wellFormed : WriteFault → Bool
  | .unknown b => (parameterCount b).isNone
  | .length b n midByte =>
    match parameterCount b with
    | none => false
    | some k => midByte || n != k
  | .noCommand => true

/-- Whether the operands of a row are those of the row (R139, R142, R147, R156). -/
def Instr.wellFormed : Instr → Bool
  | .frameRejected _ cause => cause.wellFormed
  | .reservedFrame _ kind code _ =>
    decide (2 ≤ kind.toNat) || kind == 0 && decide (13 ≤ code.toNat)
  | .fetchItemAbove11 _ item _ => decide (11 < item.toNat)
  | .discardedWrite cause => cause.wellFormed
  | _ => true

end Sys2Proof
end

