-- ==== Sys2Proof/Safety.lean ====
section
/-!
DEFINITION. What counts as a sound state of the NJ310, block by block, and the words the statements about single rows
use: a link that can take a frame, the state a passing frame leaves, an arbiter at rest.
-/

namespace Sys2Proof.Machine

/-! ## Words about rows -/

/-- A frame of the client can end now: RESETN high, and the link not waiting for a SEL rise (R138, R140). With SEL high
the frame row stands for a frame whose SEL fall came at the same air time: log entry 4. -/
abbrev State.takes (s : State) (c : Client) : Prop := s.resetn = true ∧ (s.links.get c).canEnd = true

/-- A frame of an OPENING or ACTIVE client can end now. -/
abbrev State.admits (s : State) (c : Client) : Prop := s.takes c ∧ s.admitted c = true

/-- A command of an OPENING or ACTIVE client whose plan is not frozen can be taken now (R38). -/
abbrev State.plans (s : State) (c : Client) : Prop := s.admits c ∧ (s.sup.get c).frozen = false

/-- The supervisor's records after a passing frame of the client other than ATTACH: an OPENING or ACTIVE client is
ACTIVE with its presence deadline restarted at now plus P × 10,000 µs, or none while P is 0 (R29, R30). -/
def State.supAfterFrame (s : State) (c : Client) : PerClient Supervision :=
  if s.admitted c then
    s.sup.set c
      { state := .active
        deadline :=
          if (s.policy.clients.get c).presence = 0 then none
          else some (s.clock + BitVec.ofNat 32 ((s.policy.clients.get c).presence * 10000))
        frozen := (s.sup.get c).frozen }
  else s.sup

/-- The links after a passing frame of the client whose answer is `r`: SEL high, the carried reply consumed, the
register holding `r` (R146). -/
def State.linksAfterFrame (s : State) (c : Client) (r : ReplyRegister) : PerClient Link :=
  s.links.set c
    { s.links.get c with receive := .ready, announce := (s.links.get c).flagAfterFrame, reply := r }

/-- The state in which a passing frame of the client acts: it has consumed the reply it carried and has counted as
evidence of presence (R29, R30, R146). -/
def State.frameTaken (s : State) (c : Client) : State :=
  { s with sup := s.supAfterFrame c, links := s.linksAfterFrame c (s.links.get c).reply }

/-- The state after a passing frame of the client that does nothing else than count as evidence of presence and leave
the answer `r` (R29, R30, R146). -/
def State.answered (s : State) (c : Client) (r : ReplyRegister) : State :=
  { s with sup := s.supAfterFrame c, links := s.linksAfterFrame c r }

/-- The client's live claim, bound to the flow in a slot, ends by its hold limit, before the arbiter's answer: SPENT, the
Overstays counter, the window's overstay count and both OVERSTAY notices (R120). -/
def State.overstayed (s : State) (c : Client) (slot : Nat) : State :=
  { s.giveNotice c .overstay with
    live := s.live.set c { s.live.get c with state := .spent }
    flows := onSlot slot (fun f => { f with overstays := min 65535 (f.overstays + 1) }) s.flows
    acct := { s.acct with overstays := min 65535 (s.acct.overstays + 1) }
    port := { s.port with flags := s.port.flags ||| 0x020 } }

/-- The plan after the occurrence of the entry of a number has ended: the entry retires on its last count, otherwise it
is SCHEDULED at its advanced start with its count lowered, 0 staying 0 (R73). -/
def State.planAfter (s : State) (n : Nat) : List Entry :=
  onNumber n
    (fun x =>
      if x.count = 1 then none
      else some { x with
        start := x.advancedStart s.clock, count := x.count - 1, status := .scheduled, pendingOffset := none })
    s.plan

/-- Neither holder nor next holder: the arbiter is FREE or PARKING, where no check arises (R103). -/
def State.atRest (s : State) : Prop := s.arb.mode = .free ∨ ∃ g, s.arb.mode = .parking g

/-- What a client's teardown leaves, from `s` to `t`: nothing the client owned, its draft at its reset values, no
notice, no grant; its usage, its plan-freeze flag, its link-error counter and the policy as they were; for NR the
channel note "not in band"; the arbiter has answered the departure of the client's claims (R36, R107). -/
def State.tornDown (s t : State) (c : Client) : Prop :=
  (∀ f ∈ t.flows, f.owner ≠ c) ∧ (∀ e ∈ t.plan, e.owner ≠ c) ∧
    t.live.get c = { s.live.get c with state := .idle, binding := none } ∧
    (t.links.get c).draft = .initial ∧ (t.links.get c).notices = 0 ∧
    (t.links.get c).errors = (s.links.get c).errors ∧ (t.sup.get c).frozen = (s.sup.get c).frozen ∧
    (∀ d, d ≠ c → t.sup.get d = s.sup.get d) ∧ t.gnt c = false ∧
    (∀ d, t.usageNow d = s.usageNow d) ∧ t.acct.preemptions = s.acct.preemptions ∧ t.policy = s.policy ∧
    (c = .nr → t.channel = .clear) ∧ (c ≠ .nr → t.channel = s.channel) ∧
    ∃ u : State, u = { s with
        flows := s.flows.filter (fun f => f.owner != c), plan := s.plan.filter (fun e => e.owner != c)
        live := s.live.set c { s.live.get c with state := .idle, binding := none }
        sup := u.sup, links := u.links, channel := u.channel } ∧
      t.arb = (s.claimsLeft u c).arb ∧ t.acct = (s.claimsLeft u c).acct ∧ t.flows = (s.claimsLeft u c).flows ∧
      t.plan = (s.claimsLeft u c).plan ∧ t.live = (s.claimsLeft u c).live

/-- A platform write ended with a result and a readout: RESET is cleared, the other flags are kept (R156, R165). -/
def Port.wrote (p : Port) (r : PortResult) (readout : List Byte) : Port :=
  { p with lastResult := r, readout := readout, flags := p.flags &&& 0x3FE }

/-- A platform write was refused with a result: its readout is empty and every flag is kept (R156, R165). -/
def Port.refused (p : Port) (r : PortResult) : Port := { p with lastResult := r, readout := [] }

/-! ## Which rows reach which block -/

/-- The two rows of RESETN (R1, R109). -/
def Instr.isReset : Instr → Bool
  | .resetEnd _ => true
  | .resetnLow => true
  | _ => false

/-- The rows that write the policy store (R159, R160, R161). -/
def Instr.setsPolicy : Instr → Bool
  | .setClass _ _ _ _ _ => true
  | .setClient _ _ _ _ _ => true
  | .setWindow _ _ => true
  | .setArbiter _ _ _ _ _ => true
  | _ => false

/-- The rows that may take a client out of its attachment (R26, R28, R35, R41). -/
def Instr.mayTearDown (c : Client) : Instr → Bool
  | .attach d _ => c == d
  | .detach d _ => c == d
  | .evict b => clientOfIndex b.toNat == some c
  | .restart => true
  | _ => false

/-- The writes of the platform port that reach the checks of R156. -/
def Instr.isPortWrite (i : Instr) : Bool :=
  match i with
  | .discardedWrite _ => true
  | _ => (encodeWrite i).isSome

/-! ## The accounts -/

/-- Every microsecond of the window is charged to one account: usage, guard and idle sum to the time since the window
start, which is at most W (R4, R6). -/
def State.conserves (s : State) : Prop :=
  3 ≤ s.policy.windowN ∧ s.policy.windowN ≤ 255 ∧
    (s.clock - s.acct.windowStart).toNat ≤ (s.policy.windowN + 1) * 250 ∧
    s.usageNow .nr + s.usageNow .sr + s.usageNow .ar + s.guardNow + s.idleNow =
      (s.clock - s.acct.windowStart).toNat

/-- The account being charged is the one the arbiter's state calls for (R5, R110). -/
def State.chargeFollows (s : State) : Prop := s.acct.charged = accountOf s.arb.mode

/-- The penalties are those R12 gives for the present usage, but for the charged client's, which rises to it at the next
crossing (R12, R13). -/
def State.penaltyFollows (s : State) : Prop :=
  ∀ c, if s.acct.charged = .usage c then s.acct.penalty.get c ≤ s.penaltyNow c
    else s.acct.penalty.get c = s.penaltyNow c

/-- The switch stands where the arbiter's state puts it (R89). -/
def State.switchFollows (s : State) : Prop :=
  match s.arb.mode with
  | .free => s.arb.position = s.policy.defaultPos
  | .parking _ => s.arb.position = s.policy.defaultPos
  | .settling c _ => s.arb.position = c
  | .held c => s.arb.position = c

/-! ## The policy store -/

/-- A row of the class table within its ranges (R86). -/
def ClassRow.inRange (r : ClassRow) : Prop :=
  r.base ≤ 15 ∧ r.step ≤ 3 ∧ 100 ≤ r.holdLimit ∧ r.holdLimit ≤ 65000

/-- Every setting within its range, and the tie ranks a permutation of 0, 1 and 2 (R4, R11, R16, R37, R65, R86, R89,
R93, R116, R128). -/
def Policy.inRange (p : Policy) : Prop :=
  (∀ k, (p.classes.row k).inRange) ∧
    (∀ c, (p.clients.get c).share ≤ 64 ∧ (p.clients.get c).cap ≤ 1024 ∧ (p.clients.get c).presence ≤ 255 ∧
      (p.clients.get c).rank ≤ 2) ∧
    (∀ c d, (p.clients.get c).rank = (p.clients.get d).rank → c = d) ∧
    p.guardTime ≤ 63 ∧ 1 ≤ p.margin ∧ p.margin ≤ 63 ∧ 100 ≤ p.agingInterval ∧ p.agingInterval ≤ 5000 ∧
    p.channelGuard ≤ 15 ∧ 3 ≤ p.windowN ∧ p.windowN ≤ 255 ∧ 1 ≤ p.reviewR ∧ p.reviewR ≤ 16

/-! ## Flow table and air plan -/

/-- A flow record within its ranges (R42). -/
def Flow.inRange (f : Flow) : Prop :=
  f.slot < 24 ∧ 1 ≤ f.handle ∧ f.handle ≤ 255 ∧ f.streak ≤ 15 ∧ f.grants ≤ 65535 ∧ f.served ≤ 65535 ∧
    f.missed ≤ 65535 ∧ f.cuts ≤ 65535 ∧ f.overstays ≤ 65535

/-- The flow table in its form: slots strictly rising, every record in range, no two records of one owner with one
handle, at most 12 flows of a client (R42, R43). -/
def State.flowTableOk (s : State) : Prop :=
  s.flows.Pairwise (fun f g => f.slot < g.slot) ∧ (∀ f ∈ s.flows, f.inRange) ∧
    (∀ f ∈ s.flows, ∀ g ∈ s.flows, f.owner = g.owner → f.handle = g.handle → f.slot = g.slot) ∧
    ∀ c, s.flowCount c ≤ 12

/-- A plan entry within its ranges, its occurrences kept apart and its load figure that of its duration and period
(R58, R60, R62, R63). -/
def Entry.inRange (e : Entry) : Prop :=
  e.number < 32 ∧ 50 ≤ e.duration ∧ e.duration ≤ 20000 ∧
    (e.period = 0 ∧ e.count = 1 ∨
      1000 ≤ e.period ∧ e.period ≤ 1000000 ∧ e.duration + e.slide ≤ e.period) ∧
    e.count ≤ 65535 ∧ e.slide ≤ 100000 ∧ e.load = loadFigure e.duration e.period

/-- The air plan in its form: numbers strictly rising, every entry in range, at most 16 entries of a client, and no
more load than the whole of the air (R58, R59, R60). -/
def State.planOk (s : State) : Prop :=
  s.plan.Pairwise (fun a b => a.number < b.number) ∧ (∀ e ∈ s.plan, e.inRange) ∧
    (∀ c, s.entryCount c ≤ 16) ∧ s.totalLoad ≤ 1024

/-- Every entry and every live binding names a flow of its own client, and a live claim that is not IDLE is bound (R52,
R58, R112). -/
def State.refsOk (s : State) : Prop :=
  (∀ e ∈ s.plan, ∃ f ∈ s.flows, f.slot = e.flow ∧ f.owner = e.owner) ∧
    ∀ c, ((s.live.get c).state ≠ .idle → (s.live.get c).binding ≠ none) ∧
      ∀ k, (s.live.get c).binding = some k → ∃ f ∈ s.flows, f.slot = k ∧ f.owner = c

/-- The claim board in each state of the arbiter (R84, R85): nobody waits or holds in FREE and PARKING; in SETTLING
the next holder waits and nobody holds; in HELD the holder has holding claims and no other, and nobody else holds. -/
def State.boardFollows (s : State) : Prop :=
  match s.arb.mode with
  | .free => ∀ c, s.waitingClaims c = [] ∧ s.holdingClaims c = []
  | .parking _ => ∀ c, s.waitingClaims c = [] ∧ s.holdingClaims c = []
  | .settling n _ => s.waitingClaims n ≠ [] ∧ ∀ c, s.holdingClaims c = []
  | .held h => s.holdingClaims h ≠ [] ∧ s.waitingClaims h = [] ∧ ∀ c, c ≠ h → s.holdingClaims c = []

/-! ## Clients and what they own -/

/-- A DETACHED client owns no flow, no entry, no live claim and no binding, its draft holds its reset values and none
of its notices is set (R24, R25, R40). -/
def State.detachedOwnsNothing (s : State) : Prop :=
  ∀ c, (s.sup.get c).state = .detached →
    (∀ f ∈ s.flows, f.owner ≠ c) ∧ (∀ e ∈ s.plan, e.owner ≠ c) ∧ (s.live.get c).state = .idle ∧
      (s.live.get c).binding = none ∧ (s.links.get c).draft = .initial ∧ (s.links.get c).notices = 0

/-- Claims and the air belong to OPENING and ACTIVE clients only: any other client's live claim is IDLE and its
entries are SUSPENDED, and neither the holder nor the next holder is DETACHED or SILENT (R24, R32, R33). -/
def State.airOnlyToPresent (s : State) : Prop :=
  (∀ c, s.admitted c = false →
    (s.live.get c).state = .idle ∧ ∀ e ∈ s.plan, e.owner = c → e.isSuspended = true) ∧
  (∀ c, s.arb.mode.holder = some c → s.admitted c = true) ∧
  ∀ c, s.arb.mode.next = some c → s.admitted c = true

/-! ## Channel map unit -/

/-- The masks are those of the note and the channel guard held, and a note in the band lies in 2412..2484 (R128,
R134). -/
def State.masksFollow (s : State) : Prop :=
  s.channel = computeChannel s.channel.note s.policy.channelGuard ∧
    ∀ n, s.channel.note = some n → 2412 ≤ n.centre ∧ n.centre ≤ 2484

end Sys2Proof.Machine
end

