-- ==== Sys2Proof/Certificates/Slice0/Obligations.lean ====
section
/-!
DEFINITION. The statements for the provers. Each row's statement says what the state after the row is, as one record
update wherever the row's effect is fixed by the row alone (a record update is also the frame: every field not named
is unchanged), and otherwise what the parts of the state after it hold.
-/

open Sys2Proof Sys2Proof.Machine

/-! ## The step, time and reset -/

/-- One step takes the command at the front of the queue and runs it with the queue's rest. -/
def Obligations.StepTakesTheFrontCommand : Prop :=
  ∀ (c : Instr) (rest : List Instr) (s : State),
    s.pending = c :: rest → Sys2Proof.Machine.step s = exec c { s with pending := rest }

/-- With no command waiting: while RESETN is low nothing changes; with no event due the air clock rises by 1 (R1);
with events due one of them is taken (R2). The order of due events is free and the clock's rise on an empty queue is
the model's choice: log entry 2. -/
def Obligations.IdleStepTakesADueEventOrTicks : Prop :=
  ∀ s : State, s.pending = [] →
    (s.resetn = false → Sys2Proof.Machine.step s = .next s) ∧
    (s.resetn = true → s.dueEvents = [] → Sys2Proof.Machine.step s = .next { s with clock := s.clock + 1 }) ∧
    (s.resetn = true → s.dueEvents ≠ [] →
      ∃ e ∈ s.dueEvents, ∃ k, Sys2Proof.Machine.step s = exec e { s with freeIndex := k })

/-- What each block keeps, whatever row is taken: the queue always (through the rows of RESETN by log entry 3); the
air clock and RESETN but for the rows of RESETN (R1); and, those rows apart, the policy but for the SET rows, the
masks but for CHANNEL NOTE, SET ARBITER and the end of NR's attachment, the port's result and readout but for its
writes, drafts, link-error counters, freezes, recorded line levels, live bindings, the last record, the window start,
the survey, the flows that exist and the entries' bookings each but for the rows that write them. -/
def Obligations.EachBlockChangesOnlyByItsRows : Prop :=
  ∀ (i : Instr) (s t : State), exec i s = .next t →
    t.pending = s.pending ∧
    (Instr.isReset i = false →
      t.clock = s.clock ∧ t.resetn = s.resetn ∧ t.port.straps = s.port.straps ∧
      (Instr.setsPolicy i = true ∨ t.policy = s.policy) ∧
      ((∃ v, i = .channelNote .nr v) ∨ (∃ g m a p x, i = .setArbiter g m a p x) ∨
        Instr.mayTearDown .nr i = true ∨ t.channel = s.channel) ∧
      (Instr.isPortWrite i = true ∨
        t.port.lastResult = s.port.lastResult ∧ t.port.readout = s.port.readout) ∧
      (∀ c, Instr.mayTearDown c i = true ∨ (∃ k v, i = .parameterFrame c k v) ∨
        (t.links.get c).draft = (s.links.get c).draft) ∧
      (∀ c, i = .restart ∨ (∃ x, i = .frameRejected c x) ∨ i = .selectTimeout c ∨
        (t.links.get c).errors = (s.links.get c).errors) ∧
      (∀ c, (∃ b x, i = .freezePlan b x ∧ clientOfIndex b.toNat = some c) ∨
        (t.sup.get c).frozen = (s.sup.get c).frozen) ∧
      (∀ c, i = .reqRise c ∨ i = .reqFall c ∨
        (t.live.get c).reqLevel = (s.live.get c).reqLevel) ∧
      (∀ c, (∃ x, i = .prioEdge c x) ∨ (t.live.get c).prioLevel = (s.live.get c).prioLevel) ∧
      (∀ c, Instr.mayTearDown c i = true ∨ (∃ v, i = .bindLive c v) ∨ (∃ v, i = .closeFlow c v) ∨
        (t.live.get c).binding = (s.live.get c).binding) ∧
      (i = .rollover ∨ t.acct.last = s.acct.last) ∧
      (i = .rollover ∨ (∃ n r, i = .setWindow n r) ∨ i = .restart ∨
        t.acct.windowStart = s.acct.windowStart ∧ t.acct.reviewCount = s.acct.reviewCount) ∧
      (i = .rollover ∨ (∃ n r, i = .setWindow n r) ∨ i = .restart ∨ (∃ k, i = .startSurvey k) ∨
        i = .stopSurvey ∨ t.acct.survey = s.acct.survey) ∧
      (∀ c, Instr.mayTearDown c i = true ∨ (∃ v, i = .openFlow c v) ∨ (∃ v, i = .closeFlow c v) ∨
        (s.flowTableOk → (t.flows.filter (·.owner == c)).map (fun f => (f.slot, f.handle)) =
          (s.flows.filter (·.owner == c)).map fun f => (f.slot, f.handle))) ∧
      ((∃ c v, i = .post c v) ∨
        ∀ x ∈ t.plan, ∃ e ∈ s.plan, x.number = e.number ∧ x.owner = e.owner ∧ x.flow = e.flow ∧
          x.duration = e.duration ∧ x.period = e.period ∧ x.slide = e.slide ∧ x.load = e.load))

/-- RESET_END leaves every piece of state at the value the spec gives for power-on, the sampled pins in their places. -/
def Obligations.ResetEndLeavesPowerOnValues : Prop :=
  ∀ (p : ResetPins) (s : State), ∃ t, exec (.resetEnd p) s = .next t ∧
    t.resetn = true ∧ t.clock = 0 ∧
    t.policy =
      { classes :=
          ⟨⟨15, 0, true, false, 2000⟩, ⟨12, 2, true, false, 3000⟩, ⟨10, 2, true, true, 5000⟩,
            ⟨9, 3, true, true, 1500⟩, ⟨6, 1, false, true, 10000⟩, ⟨3, 1, false, true, 20000⟩⟩
        clients := ⟨⟨32, 512, 100, 0⟩, ⟨24, 384, 100, 1⟩, ⟨8, 128, 100, 2⟩⟩
        guardTime := 10, margin := 16, agingInterval := 500, defaultPos := .nr, channelGuard := 2,
        windowN := 79, reviewR := 1 } ∧
    t.window = 20000 ∧ t.allowance .nr = 10000 ∧ t.allowance .sr = 7500 ∧ t.allowance .ar = 2500 ∧
    t.acct.windowStart = 0 ∧ t.acct.usage = ⟨0, 0, 0⟩ ∧ t.acct.guardTime = 0 ∧ t.acct.idleTime = 0 ∧
    t.acct.preemptions = 0 ∧ t.acct.misses = 0 ∧ t.acct.overstays = 0 ∧ t.acct.charged = .guardTime ∧
    t.acct.chargeStart = 0 ∧ t.acct.penalty = ⟨0, 0, 0⟩ ∧
    t.acct.last = ⟨0, ⟨0, 0, 0⟩, 0, 0, 0, 0, 0⟩ ∧ t.acct.reviewCount = 0 ∧
    t.acct.survey = ⟨.idle, 0, 0, ⟨⟨0, 0, 0⟩, 0, 0, 0, 0, 0⟩, 0, 0, ⟨⟨0, 0, 0⟩, 0, 0, 0, 0, 0⟩⟩ ∧
    t.sup = ⟨⟨.detached, none, false⟩, ⟨.detached, none, false⟩, ⟨.detached, none, false⟩⟩ ∧
    t.flows = [] ∧ t.plan = [] ∧ t.arb = ⟨.parking 10, .nr⟩ ∧
    t.live = ⟨⟨.idle, none, p.reqNR, p.prioNR⟩, ⟨.idle, none, p.reqSR, p.prioSR⟩,
      ⟨.idle, none, p.reqAR, p.prioAR⟩⟩ ∧
    t.channel = ⟨none, [], [], 0, 0⟩ ∧
    (t.links.nr.receive = if p.selNR then .ready else .awaitingRise) ∧
    (t.links.sr.receive = if p.selSR then .ready else .awaitingRise) ∧
    (t.links.ar.receive = if p.selAR then .ready else .awaitingRise) ∧
    (∀ c, (t.links.get c).reply = .empty ∧ (t.links.get c).announce = true ∧
      (t.links.get c).draft = ⟨4, 0, 1000, 0, 1, 0⟩ ∧ (t.links.get c).notices = 0 ∧
      (t.links.get c).errors = 0) ∧
    t.port = ⟨p.straps, .ok, [], 0x001, 0x00F⟩

/-- While RESETN is low the air clock holds 0, the arbiter is FREE with the switch at NR and the board empty, every
GNT is low, ANT shows 0 and ATTN is released (R1, R109, R166); every row but the two of RESETN then changes nothing
(log entry 3). -/
def Obligations.HeldInReset : Prop :=
  (∀ s : State, ∃ t, exec .resetnLow s = .next t ∧ t.resetn = false ∧ t.clock = 0 ∧ t.arb = ⟨.free, .nr⟩ ∧
    t.ant = 0 ∧ t.attnLow = false ∧ t.flows = [] ∧ t.plan = [] ∧
    ∀ c, t.gnt c = false ∧ t.waitingClaims c = [] ∧ t.holdingClaims c = []) ∧
  ∀ (i : Instr) (s : State), s.resetn = false → (∀ p, i ≠ .resetEnd p) → i ≠ .resetnLow → exec i s = .next s

/-! ## Radio links -/

/-- The edges of SEL that end no frame: a fall fixes the reply and sets the select deadline 2,000 µs later (R140,
R146, R147); a pause consumes nothing (R139, R146); the rise after an abort or after a SEL low since reset only ends
the waiting (R138, R140). -/
def Obligations.SelEdgesThatEndNoFrame : Prop :=
  (∀ (s : State) (c : Client), s.resetn = true → (s.links.get c).receive = .ready →
    ((s.links.get c).announce = true ∨ (s.links.get c).reply ≠ .empty) →
    exec (.replyCapture c) s = .next { s with links := s.links.set c { s.links.get c with
      receive := .inFrame (s.clock + 2000) (s.captureReply c) (s.links.get c).announce false } }) ∧
  (∀ (s : State) (c : Client) (d : AirTime) (w : FrameWord) (a g : Bool), s.resetn = true →
    (s.links.get c).receive = .inFrame d w a g →
    exec (.pause c) s = .next { s with links := s.links.set c { s.links.get c with receive := .ready } }) ∧
  (∀ (s : State) (c : Client), s.resetn = true → (s.links.get c).receive = .aborted →
    exec (.abortedFrameEnd c) s =
      .next { s with links := s.links.set c { s.links.get c with receive := .ready } }) ∧
  ∀ (s : State) (c : Client), s.resetn = true → (s.links.get c).receive = .awaitingRise →
    exec (.selRiseAfterReset c) s =
      .next { s with links := s.links.set c { s.links.get c with receive := .ready } }

/-- A damaged frame, of whatever cause, and a frame aborted at its select deadline raise the link-error counter up to
255, set LINKERR and leave the FRAME reply, and consume the reply they carried: an announcement clears the flag unless
it was set again since the SEL fall (R140, R141, R146). Before the select deadline nothing is aborted, which for the
row of the deadline is the model's choice: log entry 5. A frame row with SEL high is log entry 4's. -/
def Obligations.DamagedFramesAreCounted : Prop :=
  (∀ (s : State) (c : Client) (cause : FrameFault), s.takes c →
    exec (.frameRejected c cause) s = .next { s with
      links := s.links.set c { s.links.get c with
        receive := .ready, announce := (s.links.get c).flagAfterFrame, reply := .frameReply,
        errors := min 255 ((s.links.get c).errors + 1) }
      port := { s.port with flags := s.port.flags ||| 0x010 } }) ∧
  (∀ (s : State) (c : Client) (d : AirTime) (w : FrameWord) (a g : Bool), s.resetn = true →
    (s.links.get c).receive = .inFrame d w a g → reached s.clock d = true →
    exec (.selectTimeout c) s = .next { s with
      links := s.links.set c { s.links.get c with
        receive := .aborted, announce := (s.links.get c).announce && (!a || g), reply := .frameReply,
        errors := min 255 ((s.links.get c).errors + 1) }
      port := { s.port with flags := s.port.flags ||| 0x010 } }) ∧
  (∀ (s : State) (c : Client) (d : AirTime) (w : FrameWord) (a g : Bool),
    (s.links.get c).receive = .inFrame d w a g → reached s.clock d = false →
    exec (.selectTimeout c) s = .next s) ∧
  ∀ (l : Link) (d : AirTime) (w : FrameWord) (a g : Bool), l.receive = .inFrame d w a g →
    l.flagAfterFrame = (l.announce && (!a || g))

/-- What a reply carries, read at its SEL fall: the announcement when the flag is set, otherwise the register's reply;
a FETCH that names something answers OK with its data, one that names nothing RANGE with DATA 0 (R145 to R148); the
data of every item, the four parts of the masks (R136), the five counters of a flow (R55) and both parts of an entry
among them. -/
def Obligations.CapturedReplyContents : Prop :=
  ∀ (s : State) (c : Client),
    ((s.links.get c).announce = true →
      s.captureReply c = replyFrame true ((s.links.get c).notices != 0) .restart (s.statusWord c)) ∧
    ((s.links.get c).announce = false → (s.links.get c).reply = .frameReply →
      s.captureReply c = replyFrame true ((s.links.get c).notices != 0) .frame (s.statusWord c)) ∧
    (∀ r d, (s.links.get c).announce = false → (s.links.get c).reply = .answer r d →
      s.captureReply c = replyFrame false ((s.links.get c).notices != 0) r d) ∧
    (∀ item arg v, (s.links.get c).announce = false → (s.links.get c).reply = .fetch item arg →
      s.fetchData c item arg = some v →
      s.captureReply c = replyFrame false ((s.links.get c).notices != 0) .ok v) ∧
    (∀ item arg, (s.links.get c).announce = false → (s.links.get c).reply = .fetch item arg →
      s.fetchData c item arg = none →
      s.captureReply c = replyFrame false ((s.links.get c).notices != 0) .range 0) ∧
    (∀ arg, s.fetchData c 0 arg = some (s.clock.setWidth 24)) ∧
    (∀ arg, s.fetchData c 1 arg = some (s.statusWord c)) ∧
    (∀ arg, s.fetchData c 2 arg = some ((s.links.get c).notices.setWidth 24)) ∧
    (∀ arg, s.fetchData c 3 arg =
      some (BitVec.ofNat 24 (s.usageNow c + 65536 * s.acct.penalty.get c))) ∧
    (∀ arg, s.fetchData c 4 arg = some (BitVec.ofNat 24 (s.acct.last.held.get c))) ∧
    (∀ arg, s.flowNamed c arg.toNat = none → s.fetchData c 9 arg = none) ∧
    (∀ arg f, s.flowNamed c arg.toNat = some f → s.fetchData c 9 arg =
      some (BitVec.ofNat 24 (f.slot + 32 * classCode (effectiveClass f) +
        (if f.pinned.isSome then 256 else 0) +
        (if (s.live.get c).binding = some f.slot then 512 else 0) + 1024 * f.streak))) ∧
    (∀ arg e, s.entryNamed c (arg.extractLsb' 0 8).toNat = some e → arg.getLsbD 8 = false →
      s.fetchData c 11 arg = some (e.start.setWidth 24)) ∧
    (∀ arg e, s.entryNamed c (arg.extractLsb' 0 8).toNat = some e → arg.getLsbD 8 = true →
      s.fetchData c 11 arg = some (match e.status with
        | .scheduled => 0
        | .due => 1
        | .holding _ => 2
        | .suspended _ => 3)) ∧
    (∀ arg, s.entryNamed c (arg.extractLsb' 0 8).toNat = none → s.fetchData c 11 arg = none) ∧
    (∀ n e, s.entryNamed c n = some e ↔ s.entryAt n = some e ∧ e.owner = c) ∧
    (∀ (arg : BitVec 16) f, s.flowNamed c (arg.extractLsb' 0 8).toNat = some f →
      ((arg.extractLsb' 8 8).toNat = 0 → s.fetchData c 10 arg = some (BitVec.ofNat 24 f.grants)) ∧
      ((arg.extractLsb' 8 8).toNat = 1 → s.fetchData c 10 arg = some (BitVec.ofNat 24 f.served)) ∧
      ((arg.extractLsb' 8 8).toNat = 2 → s.fetchData c 10 arg = some (BitVec.ofNat 24 f.missed)) ∧
      ((arg.extractLsb' 8 8).toNat = 3 → s.fetchData c 10 arg = some (BitVec.ofNat 24 f.cuts)) ∧
      ((arg.extractLsb' 8 8).toNat = 4 → s.fetchData c 10 arg = some (BitVec.ofNat 24 f.overstays)) ∧
      (4 < (arg.extractLsb' 8 8).toNat → s.fetchData c 10 arg = none)) ∧
    (∀ arg : BitVec 16, s.flowNamed c (arg.extractLsb' 0 8).toNat = none → s.fetchData c 10 arg = none) ∧
    (∀ (part : Fin 4) (arg : BitVec 16) (avoided : List Nat) (channels : Nat),
      (arg = 1 ∨ arg = 0 ∧ c = .sr) ∧ avoided = s.channel.srAvoided ∧ channels = 79 ∨
        (arg = 2 ∨ arg = 0 ∧ c = .ar) ∧ avoided = s.channel.arAvoided ∧ channels = 16 →
      (channels ≤ 24 * part.val → s.fetchData c (BitVec.ofNat 8 (5 + part.val)) arg = none) ∧
      (24 * part.val < channels → ∃ v, s.fetchData c (BitVec.ofNat 8 (5 + part.val)) arg = some v ∧
        ∀ i, i < 24 → v.getLsbD i =
          decide (24 * part.val + i < channels ∧ 24 * part.val + i ∈ avoided))) ∧
    (∀ (part : Fin 4) (arg : BitVec 16), (3 ≤ arg.toNat ∨ arg = 0 ∧ c = .nr) →
      s.fetchData c (BitVec.ofNat 8 (5 + part.val)) arg = none) ∧
    ∀ (item : BitVec 8) arg, 11 < item.toNat → s.fetchData c item arg = none

/-- The reply frame's fields stand where R144 puts them and all 32 bits hold an odd number of ones; the status word's
fields stand where R145 puts them, within the ranges of the counts. -/
def Obligations.ReplyAndStatusLayout : Prop :=
  (∀ (flag note : Bool) (r : Result) (d : Value),
    oddParity (replyFrame flag note r d) = true ∧
      (replyFrame flag note r d).getLsbD 31 = flag ∧ (replyFrame flag note r d).getLsbD 30 = note ∧
      ((replyFrame flag note r d).extractLsb' 25 5).toNat = resultCode r ∧
      (replyFrame flag note r d).extractLsb' 1 24 = d) ∧
  ∀ (s : State) (c : Client), s.flowCount c ≤ 12 → s.entryCount c ≤ 16 →
    ((s.statusWord c).extractLsb' 0 2).toNat = clientStateCode (s.sup.get c).state ∧
      ((s.statusWord c).extractLsb' 2 2).toNat = liveStateCode (s.live.get c).state ∧
      (s.statusWord c).getLsbD 4 = s.gnt c ∧
      (s.statusWord c).extractLsb' 5 7 = (s.links.get c).notices ∧
      ((s.statusWord c).extractLsb' 12 4).toNat = s.flowCount c ∧
      ((s.statusWord c).extractLsb' 16 5).toNat = s.entryCount c ∧
      (s.statusWord c).extractLsb' 21 3 = 0

/-- Every frame of a link and every other SEL edge of it leaves the other links alone: their receive state, reply
register, announcement flag, draft record and link-error counter (R153). -/
def Obligations.LinksAreIndependent : Prop :=
  ∀ (i : Instr) (c d : Client) (s t : State), d ≠ c →
    ((∃ w, encodeFrame i = some (c, w)) ∨ i = .replyCapture c ∨ i = .pause c ∨
      (∃ x, i = .frameRejected c x) ∨ i = .selectTimeout c ∨ i = .abortedFrameEnd c ∨
      i = .selRiseAfterReset c) →
    exec i s = .next t →
    (t.links.get d).receive = (s.links.get d).receive ∧ (t.links.get d).reply = (s.links.get d).reply ∧
      (t.links.get d).announce = (s.links.get d).announce ∧ (t.links.get d).draft = (s.links.get d).draft ∧
      (t.links.get d).errors = (s.links.get d).errors

/-- DECODE AND ENCODE AGREE: every well-formed passing frame row is what its own frame decodes to, and every frame
that decodes to a frame row is that row's encoding (R142, R143, R145); every executed write row is what its own bytes
decode to (R157). -/
def Obligations.FramesAndWritesRoundTrip : Prop :=
  (∀ (i : Instr) (c : Client) (w : FrameWord), i.wellFormed = true → encodeFrame i = some (c, w) →
    decodeFrame c 32 w = i) ∧
  (∀ (c : Client) (w : FrameWord), oddParity w = true →
    (decodeFrame c 32 w).wellFormed = true ∧ encodeFrame (decodeFrame c 32 w) = some (c, w)) ∧
  ∀ (i : Instr) (bs : List Byte), encodeWrite i = some bs → decodeWrite bs false = i

/-! ## Clients -/

/-- PRESENT answers OK and restarts the presence deadline (R30); in DETACHED and SILENT each command that those states
do not admit answers STATE and changes no state of any other block (R27). A frame row with SEL high is log entry 4's. -/
def Obligations.PresentAndTheStateTest : Prop :=
  (∀ (s : State) (c : Client) (v : Value), s.admits c →
    exec (.present c v) s = .next (s.answered c (.answer .ok 0))) ∧
  ∀ (s : State) (c : Client) (v : Value) (k : BitVec 5) (i : Instr), s.takes c → s.admitted c = false →
    (i = .present c v ∨ i = .openFlow c v ∨ i = .closeFlow c v ∨ i = .reclass c v ∨ i = .bindLive c v ∨
      i = .post c v ∨ i = .retime c v ∨ i = .cancel c v ∨ i = .channelNote c v ∨
      i = .parameterFrame c k v) →
    exec i s = .next (s.answered c (.answer .state 0))

/-- ATTACH from DETACHED: OPENING with the opening window of 500,000 µs unless P is 0, the reply register emptied and
the announcement flag set (R25, R148); DETACH of a DETACHED client answers OK and changes nothing else (R28); EVICT of
one answers OK (R35). A frame row with SEL high is log entry 4's. -/
def Obligations.DetachedClientAttaches : Prop :=
  (∀ (s : State) (c : Client) (v : Value), s.takes c → (s.sup.get c).state = .detached →
    exec (.attach c v) s = .next { s with
      sup := s.sup.set c
        { s.sup.get c with
          state := .opening
          deadline := if (s.policy.clients.get c).presence = 0 then none else some (s.clock + 500000) }
      links := s.links.set c { s.links.get c with receive := .ready, announce := true, reply := .empty } }) ∧
  (∀ (s : State) (c : Client) (v : Value), s.takes c → (s.sup.get c).state = .detached →
    exec (.detach c v) s = .next (s.answered c (.answer .ok 0))) ∧
  ∀ (s : State) (c : Client) (b : Byte), s.resetn = true → clientOfIndex b.toNat = some c →
    (s.sup.get c).state = .detached →
    exec (.evict b) s = .next { s with port := s.port.wrote .ok [] }

/-- ATTACH, DETACH and EVICT of an attached client tear it down, and the arbiter answers the departure of its claims
(R36, R107); ATTACH then opens it anew (R26), DETACH answers OK (R28), and EVICT leaves the link's register and flag as
they were (R35, R154). A frame row with SEL high is log entry 4's. -/
def Obligations.TeardownLeavesNothing : Prop :=
  (∀ (s : State) (c : Client) (v : Value), s.takes c → (s.sup.get c).state ≠ .detached →
    ∃ t, exec (.attach c v) s = .next t ∧ s.tornDown t c ∧ (t.sup.get c).state = .opening ∧
      ((t.sup.get c).deadline =
        if (s.policy.clients.get c).presence = 0 then none else some (s.clock + 500000)) ∧
      (t.links.get c).reply = .empty ∧ (t.links.get c).announce = true) ∧
  (∀ (s : State) (c : Client) (v : Value), s.takes c → (s.sup.get c).state ≠ .detached →
    ∃ t, exec (.detach c v) s = .next t ∧ s.tornDown t c ∧ (t.sup.get c).state = .detached ∧
      (t.sup.get c).deadline = none ∧ (t.links.get c).reply = .answer .ok 0) ∧
  ∀ (s : State) (c : Client) (b : Byte), s.resetn = true → clientOfIndex b.toNat = some c →
    (s.sup.get c).state ≠ .detached →
    ∃ t, exec (.evict b) s = .next t ∧ s.tornDown t c ∧ (t.sup.get c).state = .detached ∧
      (t.sup.get c).deadline = none ∧ (t.links.get c).reply = (s.links.get c).reply ∧
      (t.links.get c).announce = (s.links.get c).announce ∧ t.port = s.port.wrote .ok []

/-- The presence deadline: the client is SILENT, its live claim IDLE with the binding kept, its entries SUSPENDED,
SILENT-x set, and the arbiter answers the departure of its claims; it holds no air, nothing is counted as a preemption,
and no notice of a client changes (R31, R32, R33, R107). A periodic entry steps at once by the fewest periods that bring its start past the present air time (R79); a
one-shot whose window has ended is marked expired in the same act (log entry 13). Before the deadline nothing happens:
the model's choice, log entry 5. -/
def Obligations.PresenceExpirySilences : Prop :=
  (∀ (s : State) (c : Client) (d : AirTime), s.resetn = true → s.admitted c = true →
    (s.sup.get c).deadline = some d → reached s.clock d = true →
    ∃ t, exec (.presenceExpiry c) s = .next t ∧
      t = s.claimsLeft { s with
        sup := s.sup.set c ⟨.silent, none, (s.sup.get c).frozen⟩
        live := s.live.set c { s.live.get c with state := .idle }
        plan := s.plan.map (fun e => if e.owner = c then e.suspend s.clock else e)
        port := { s.port with flags := s.port.flags ||| portBit (.silent c) } } c ∧
      t.sup = s.sup.set c ⟨.silent, none, (s.sup.get c).frozen⟩ ∧
      t.live.get c = { s.live.get c with state := .idle } ∧
      t.plan.filter (fun e => e.owner == c) =
        (s.plan.filter (fun e => e.owner == c)).map (fun e => e.suspend s.clock) ∧
      t.port = { s.port with flags := s.port.flags ||| portBit (.silent c) } ∧
      t.gnt c = false ∧ t.links = s.links ∧ t.acct.preemptions = s.acct.preemptions ∧
      (∀ e, t.usageNow e = s.usageNow e) ∧ t.policy = s.policy ∧ t.channel = s.channel) ∧
  (∀ (e : Entry) (now : AirTime), e.period = 0 →
    e.suspend now = { e with status := .suspended (reached now (e.start + BitVec.ofNat 32 e.slide)) }) ∧
  (∀ (e : Entry) (now : AirTime), 1000 ≤ e.period → e.period ≤ 1000000 →
    ∃ k : Nat, e.suspend now =
        { e with start := e.start + BitVec.ofNat 32 (k * e.period), status := .suspended false } ∧
      later (e.start + BitVec.ofNat 32 (k * e.period)) now = true ∧
      ∀ j, j < k → later (e.start + BitVec.ofNat 32 (j * e.period)) now = false) ∧
  ∀ (s : State) (c : Client) (d : AirTime), (s.sup.get c).deadline = some d → reached s.clock d = false →
    exec (.presenceExpiry c) s = .next s

/-- REVIVE of a SILENT client: OPENING with the opening window, RESTORED given; each suspended periodic entry
SCHEDULED at the first start later than the present air time that is a whole number of periods on, its count kept;
each one-shot whose window has passed removed with ENDED; each other one-shot SCHEDULED at its start, or DUE at once,
and HOLDING where its client is granted in the act, if that start has been reached (R34). Of any other client RANGE
and nothing changed. -/
def Obligations.ReviveRestoresThePlan : Prop :=
  (∀ (s : State) (c : Client) (b : Byte), s.resetn = true → clientOfIndex b.toNat = some c →
    (s.sup.get c).state = .silent → s.planOk →
    ∃ t, exec (.revive b) s = .next t ∧ (t.sup.get c).state = .opening ∧
      ((t.sup.get c).deadline =
        if (s.policy.clients.get c).presence = 0 then none else some (s.clock + 500000)) ∧
      (t.links.get c).notices.getLsbD 5 = true ∧ t.port.lastResult = .ok ∧ t.port.readout = [] ∧
      (∀ e ∈ s.plan, e.owner = c → e.isSuspended = true → e.period ≠ 0 →
        ∃ x ∈ t.plan, x.number = e.number ∧ x.status = .scheduled ∧ x.count = e.count ∧
          x.pendingOffset = e.pendingOffset ∧
          ∃ k : Nat, x.start = e.start + BitVec.ofNat 32 (k * e.period) ∧ later x.start s.clock = true ∧
            ∀ j, j < k → later (e.start + BitVec.ofNat 32 (j * e.period)) s.clock = false) ∧
      (∀ e ∈ s.plan, e.owner = c → e.isSuspended = true → e.period = 0 →
        (e.status = .suspended true ∨ reached s.clock (e.start + BitVec.ofNat 32 e.slide) = true) →
        (∀ x ∈ t.plan, x.number ≠ e.number) ∧ (t.links.get c).notices.getLsbD 1 = true) ∧
      ∀ e ∈ s.plan, e.owner = c → e.status = .suspended false → e.period = 0 →
        reached s.clock (e.start + BitVec.ofNat 32 e.slide) = false →
        ∃ x ∈ t.plan, x = { e with status := x.status } ∧
          (reached s.clock e.start = false → x.status = .scheduled) ∧
          (reached s.clock e.start = true → x.status = .due ∨ x.status = .holding s.clock)) ∧
  ∀ (s : State) (b : Byte), s.resetn = true →
    (∀ c, clientOfIndex b.toNat = some c → (s.sup.get c).state ≠ .silent) →
    exec (.revive b) s = .next { s with port := s.port.refused .range }

/-! ## Flow table -/

/-- OPEN FLOW makes its record in the lowest free slot, its class the draft's CLASS, and answers with the slot; its
checks come in the order handle, class, uniqueness, room (R43, R44). A frame row with SEL high is log entry 4's. -/
def Obligations.OpenFlowTakesTheLowestSlot : Prop :=
  (∀ (s : State) (c : Client) (v : Value) (k : FlowClass) (slot : Nat), s.admits c → 1 ≤ v.toNat →
    v.toNat ≤ 255 → classOfCode (s.links.get c).draft.flowClass.toNat = some k →
    s.flowNamed c v.toNat = none → s.flowCount c < 12 → s.freeSlot = some slot →
    exec (.openFlow c v) s = .next { s.answered c (.answer .ok (BitVec.ofNat 24 slot)) with
      flows := insertFlow
        { slot := slot, owner := c, handle := v.toNat, requested := k, pinned := none, streak := 0,
          grants := 0, served := 0, missed := 0, cuts := 0, overstays := 0 } s.flows }) ∧
  (∀ (s : State) (k : Nat), s.freeSlot = some k ↔
    k < 24 ∧ (∀ f ∈ s.flows, f.slot ≠ k) ∧ ∀ j, j < k → ∃ f ∈ s.flows, f.slot = j) ∧
  (∀ (s : State) (c : Client) (v : Value), s.admits c →
    (v.toNat = 0 ∨ 255 < v.toNat ∨ classOfCode (s.links.get c).draft.flowClass.toNat = none) →
    exec (.openFlow c v) s = .next (s.answered c (.answer .range 0))) ∧
  (∀ (s : State) (c : Client) (v : Value) (k : FlowClass) (f : Flow), s.admits c → 1 ≤ v.toNat →
    v.toNat ≤ 255 → classOfCode (s.links.get c).draft.flowClass.toNat = some k →
    s.flowNamed c v.toNat = some f →
    exec (.openFlow c v) s = .next (s.answered c (.answer .duplicate 0))) ∧
  ∀ (s : State) (c : Client) (v : Value) (k : FlowClass), s.admits c → 1 ≤ v.toNat →
    v.toNat ≤ 255 → classOfCode (s.links.get c).draft.flowClass.toNat = some k →
    s.flowNamed c v.toNat = none → (12 ≤ s.flowCount c ∨ s.freeSlot = none) →
    exec (.openFlow c v) s = .next (s.answered c (.answer .noRoom 0))

/-- CLOSE FLOW removes the record, every entry of the flow, and the binding with its live claim; where the flow has no
claim on the board nothing else changes, and otherwise the arbiter answers the departure of its claims (R98, R99). An
unknown handle answers UNKNOWN, a frozen flow with entries LOCKED (R38,
R45). A frame row with SEL high is log entry 4's. -/
def Obligations.CloseFlowRemovesTheFlow : Prop :=
  (∀ (s : State) (c : Client) (v : Value) (f : Flow), s.admits c → s.flowNamed c v.toNat = some f →
    ((s.sup.get c).frozen = false ∨ s.entriesOfFlow f.slot = 0) →
    ∃ t, exec (.closeFlow c v) s = .next t ∧ (∀ g ∈ t.flows, g.slot ≠ f.slot) ∧
      (∀ e ∈ t.plan, e.flow ≠ f.slot) ∧ (t.live.get c).binding ≠ some f.slot ∧
      ((s.live.get c).binding = some f.slot → (t.live.get c).state = .idle) ∧
      (t.links.get c).reply = .answer .ok 0) ∧
  (∀ (s : State) (c : Client) (v : Value) (f : Flow), s.admits c → s.flowNamed c v.toNat = some f →
    ((s.sup.get c).frozen = false ∨ s.entriesOfFlow f.slot = 0) → s.flowClaims c f.slot = false →
    exec (.closeFlow c v) s = .next { s.answered c (.answer .ok 0) with
      flows := s.flows.filter (fun g => g.slot != f.slot)
      plan := s.plan.filter (fun e => e.flow != f.slot)
      live :=
        if (s.live.get c).binding = some f.slot then
          s.live.set c { s.live.get c with state := .idle, binding := none }
        else s.live }) ∧
  (∀ (s : State) (c : Client) (v : Value) (f : Flow), s.admits c → s.flowNamed c v.toNat = some f →
    ((s.sup.get c).frozen = false ∨ s.entriesOfFlow f.slot = 0) → s.flowClaims c f.slot = true →
    exec (.closeFlow c v) s = .next (((s.frameTaken c).claimsLeft
      { s.frameTaken c with
        flows := s.flows.filter (fun g => g.slot != f.slot)
        plan := s.plan.filter (fun e => e.flow != f.slot)
        live :=
          if (s.live.get c).binding = some f.slot then
            s.live.set c { s.live.get c with state := .idle, binding := none }
          else s.live } c).answer c .ok 0)) ∧
  (∀ (s : State) (c : Client) (v : Value), s.admits c → s.flowNamed c v.toNat = none →
    exec (.closeFlow c v) s = .next (s.answered c (.answer .unknown 0))) ∧
  ∀ (s : State) (c : Client) (v : Value) (f : Flow), s.admits c → s.flowNamed c v.toNat = some f →
    (s.sup.get c).frozen = true → 0 < s.entriesOfFlow f.slot →
    exec (.closeFlow c v) s = .next (s.answered c (.answer .locked 0))

/-- RECLASS sets the requested class of an unpinned flow (R49); with the class the flow already has, or at rest with no
live claim of the flow holding, nothing else changes (R48). Its refusals come in the order UNKNOWN, RANGE, LOCKED, the
last for a flow pinned to any class. With a new class the hold deadline of the flow's HOLDING live claim becomes hold
start plus the new class's limit, and where that has been reached the claim expires at once (R48, R119, R120); then the
arbiter makes the check of its state (R48, R103). A frame row with SEL high is log entry 4's. -/
def Obligations.ReclassSetsTheRequestedClass : Prop :=
  (∀ (s : State) (c : Client) (v : Value) (f : Flow) (k : FlowClass), s.admits c →
    s.flowNamed c (v.extractLsb' 8 16).toNat = some f → classOfCode (v.extractLsb' 0 8).toNat = some k →
    f.pinned = none →
    ∃ t, exec (.reclass c v) s = .next t ∧ (t.links.get c).reply = .answer .ok 0 ∧
      ∃ g ∈ t.flows, g.slot = f.slot ∧ g.owner = c ∧ g.handle = f.handle ∧ g.requested = k ∧
        g.pinned = none) ∧
  (∀ (s : State) (c : Client) (v : Value) (f : Flow) (k : FlowClass), s.admits c →
    s.flowNamed c (v.extractLsb' 8 16).toNat = some f → classOfCode (v.extractLsb' 0 8).toNat = some k →
    f.pinned = none →
    (k = f.requested ∨ s.atRest ∧ (s.liveHolding c = none ∨ (s.live.get c).binding ≠ some f.slot)) →
    exec (.reclass c v) s = .next { s.answered c (.answer .ok 0) with
      flows := onSlot f.slot (fun _ => { f with requested := k }) s.flows }) ∧
  (∀ (s : State) (c : Client) (v : Value) (f : Flow) (k : FlowClass), s.admits c →
    s.flowNamed c (v.extractLsb' 8 16).toNat = some f → classOfCode (v.extractLsb' 0 8).toNat = some k →
    f.pinned = none → k ≠ f.requested → (s.liveHolding c = none ∨ (s.live.get c).binding ≠ some f.slot) →
    exec (.reclass c v) s = .next ((State.stateCheck { s.frameTaken c with
      flows := onSlot f.slot (fun _ => { f with requested := k }) s.flows }).answer c .ok 0)) ∧
  (∀ (s : State) (c : Client) (v : Value) (f : Flow) (k : FlowClass) (u : Bool) (a d l : AirTime) (t : State),
    s.admits c → s.flowNamed c (v.extractLsb' 8 16).toNat = some f →
    classOfCode (v.extractLsb' 0 8).toNat = some k → f.pinned = none → k ≠ f.requested →
    (s.live.get c).binding = some f.slot → (s.live.get c).state = .holding u a d →
    s.flowAt f.slot = some f → l = a + BitVec.ofNat 32 (s.policy.classes.row k).holdLimit →
    t = { s.frameTaken c with
      flows := onSlot f.slot (fun _ => { f with requested := k }) s.flows
      live := s.live.set c { s.live.get c with state := .holding u a l } } →
    (reached s.clock l = false → exec (.reclass c v) s = .next (t.stateCheck.answer c .ok 0)) ∧
    (reached s.clock l = true → exec (.reclass c v) s =
      .next (((t.claimsLeft (t.overstayed c f.slot) c).stateCheck).answer c .ok 0))) ∧
  (∀ (s : State) (c : Client) (v : Value), s.admits c →
    s.flowNamed c (v.extractLsb' 8 16).toNat = none →
    exec (.reclass c v) s = .next (s.answered c (.answer .unknown 0))) ∧
  (∀ (s : State) (c : Client) (v : Value) (f : Flow), s.admits c →
    s.flowNamed c (v.extractLsb' 8 16).toNat = some f → classOfCode (v.extractLsb' 0 8).toNat = none →
    exec (.reclass c v) s = .next (s.answered c (.answer .range 0))) ∧
  ∀ (s : State) (c : Client) (v : Value) (f : Flow) (k p : FlowClass), s.admits c →
    s.flowNamed c (v.extractLsb' 8 16).toNat = some f → classOfCode (v.extractLsb' 0 8).toNat = some k →
    f.pinned = some p →
    exec (.reclass c v) s = .next (s.answered c (.answer .locked 0))

/-- BIND LIVE binds the request line to a flow or, with handle 0, unbinds it, while the live claim is IDLE; the handle
is checked first (UNKNOWN), then the live claim (STATE); nothing else changes (R52). A frame row with SEL high is log
entry 4's. -/
def Obligations.BindLiveNeedsAnIdleClaim : Prop :=
  (∀ (s : State) (c : Client), s.admits c → (s.live.get c).state = .idle →
    exec (.bindLive c 0) s = .next { s.answered c (.answer .ok 0) with
      live := s.live.set c { s.live.get c with binding := none } }) ∧
  (∀ (s : State) (c : Client) (v : Value) (f : Flow), s.admits c → v ≠ 0 →
    s.flowNamed c v.toNat = some f → (s.live.get c).state = .idle →
    exec (.bindLive c v) s = .next { s.answered c (.answer .ok v) with
      live := s.live.set c { s.live.get c with binding := some f.slot } }) ∧
  (∀ (s : State) (c : Client) (v : Value), s.admits c → v ≠ 0 → s.flowNamed c v.toNat = none →
    exec (.bindLive c v) s = .next (s.answered c (.answer .unknown 0))) ∧
  ∀ (s : State) (c : Client) (v : Value), s.admits c → (v = 0 ∨ (s.flowNamed c v.toNat).isSome = true) →
    (s.live.get c).state ≠ .idle →
    exec (.bindLive c v) s = .next (s.answered c (.answer .state 0))

/-- PIN FLOW, UNPIN FLOW and FREEZE PLAN: the pinned class or the flag changes, the owner is given POLICY exactly when
it changed, and the requested class is kept; with the effective class as it was, or at rest with no live claim of the
flow holding, nothing else changes. With a new effective class the hold deadline of the flow's HOLDING live claim
becomes hold start plus the new class's limit, and where that has been reached the claim expires at once (R48, R119,
R120); then the arbiter makes the check of its state (R48, R103). What names nothing answers RANGE (R38, R50, R51). -/
def Obligations.PinsAndFreezes : Prop :=
  (∀ (s : State) (b k : Byte) (f : Flow) (p : FlowClass), s.resetn = true → s.flowAt b.toNat = some f →
    classOfCode (min 5 k.toNat) = some p →
    (effectiveClass f = p ∨
      s.atRest ∧ (s.liveHolding f.owner = none ∨ (s.live.get f.owner).binding ≠ some f.slot)) →
    exec (.pinFlow b k) s = .next { (if f.pinned = some p then s else s.giveNotice f.owner .policy) with
      flows := if f.pinned = some p then s.flows
        else onSlot f.slot (fun _ => { f with pinned := some p }) s.flows
      port := s.port.wrote (if 5 < k.toNat then .clamped else .ok) [] }) ∧
  (∀ (s : State) (b : Byte) (f : Flow), s.resetn = true → s.flowAt b.toNat = some f →
    (effectiveClass f = f.requested ∨
      s.atRest ∧ (s.liveHolding f.owner = none ∨ (s.live.get f.owner).binding ≠ some f.slot)) →
    exec (.unpinFlow b) s = .next { (if f.pinned = none then s else s.giveNotice f.owner .policy) with
      flows := if f.pinned = none then s.flows
        else onSlot f.slot (fun _ => { f with pinned := none }) s.flows
      port := s.port.wrote .ok [] }) ∧
  (∀ (s : State) (b x : Byte) (c : Client), s.resetn = true → clientOfIndex b.toNat = some c →
    exec (.freezePlan b x) s =
      .next { (if (s.sup.get c).frozen = x.getLsbD 0 then s else s.giveNotice c .policy) with
        sup := s.sup.set c { s.sup.get c with frozen := x.getLsbD 0 }
        port := s.port.wrote .ok [] }) ∧
  (∀ (s : State) (b k : Byte), s.resetn = true → s.flowAt b.toNat = none →
    exec (.pinFlow b k) s = .next { s with port := s.port.refused .range } ∧
      exec (.unpinFlow b) s = .next { s with port := s.port.refused .range }) ∧
  (∀ (s : State) (b x : Byte), s.resetn = true → 2 < b.toNat →
    exec (.freezePlan b x) s = .next { s with port := s.port.refused .range }) ∧
  (∀ (s : State) (b k : Byte) (f : Flow) (p : FlowClass), s.resetn = true → s.flowAt b.toNat = some f →
    classOfCode (min 5 k.toNat) = some p →
    ∃ t, exec (.pinFlow b k) s = .next t ∧ t.port.readout = [] ∧
      (t.port.lastResult = if 5 < k.toNat then .clamped else .ok) ∧
      (t.links.get f.owner).notices.getLsbD 6 =
        ((s.links.get f.owner).notices.getLsbD 6 ||
          decide (f.pinned ≠ some p ∧ (s.sup.get f.owner).state ≠ .detached)) ∧
      ∃ g ∈ t.flows, g.slot = f.slot ∧ g.pinned = some p ∧ g.requested = f.requested) ∧
  (∀ (s : State) (b : Byte) (f : Flow), s.resetn = true → s.flowAt b.toNat = some f →
    ∃ t, exec (.unpinFlow b) s = .next t ∧ t.port.readout = [] ∧ t.port.lastResult = .ok ∧
      (t.links.get f.owner).notices.getLsbD 6 =
        ((s.links.get f.owner).notices.getLsbD 6 ||
          decide (f.pinned ≠ none ∧ (s.sup.get f.owner).state ≠ .detached)) ∧
      ∃ g ∈ t.flows, g.slot = f.slot ∧ g.pinned = none ∧ g.requested = f.requested) ∧
  (∀ (s : State) (b k : Byte) (f : Flow) (p : FlowClass), s.resetn = true → s.flowAt b.toNat = some f →
    classOfCode (min 5 k.toNat) = some p → effectiveClass f ≠ p →
    (s.liveHolding f.owner = none ∨ (s.live.get f.owner).binding ≠ some f.slot) →
    exec (.pinFlow b k) s = .next { (State.stateCheck { s.giveNotice f.owner .policy with
        flows := onSlot f.slot (fun _ => { f with pinned := some p }) s.flows }) with
      port := s.port.wrote (if 5 < k.toNat then .clamped else .ok) [] }) ∧
  (∀ (s : State) (b : Byte) (f : Flow), s.resetn = true → s.flowAt b.toNat = some f →
    effectiveClass f ≠ f.requested →
    (s.liveHolding f.owner = none ∨ (s.live.get f.owner).binding ≠ some f.slot) →
    exec (.unpinFlow b) s = .next { (State.stateCheck { s.giveNotice f.owner .policy with
        flows := onSlot f.slot (fun _ => { f with pinned := none }) s.flows }) with
      port := s.port.wrote .ok [] }) ∧
  ∀ (s : State) (i : Instr) (b k : Byte) (f : Flow) (q : Option FlowClass) (r : PortResult) (u : Bool)
      (a d l : AirTime) (t : State), s.resetn = true → s.flowAt b.toNat = some f →
    (i = .pinFlow b k ∧ q = classOfCode (min 5 k.toNat) ∧ r = (if 5 < k.toNat then .clamped else .ok) ∨
      i = .unpinFlow b ∧ q = none ∧ r = .ok) →
    q.getD f.requested ≠ effectiveClass f → (s.live.get f.owner).binding = some f.slot →
    (s.live.get f.owner).state = .holding u a d →
    l = a + BitVec.ofNat 32 (s.policy.classes.row (q.getD f.requested)).holdLimit →
    t = { s.giveNotice f.owner .policy with
      flows := onSlot f.slot (fun _ => { f with pinned := q }) s.flows
      live := s.live.set f.owner { s.live.get f.owner with state := .holding u a l } } →
    (reached s.clock l = false →
      exec i s = .next { t.stateCheck with port := s.port.wrote r [] }) ∧
    (reached s.clock l = true →
      exec i s = .next { (t.claimsLeft (t.overstayed f.owner f.slot) f.owner).stateCheck with
        port := { s.port with flags := s.port.flags ||| 0x020 }.wrote r [] })

/-! ## Air plan -/

/-- POST of a draft that passes every check commits the entry with its resolved start, trimmed slide, count and load
figure in the lowest free number, and answers OK or CONTESTED with the number and flags; a start in the future leaves
it SCHEDULED and touches nothing else (R61 to R67). The client's reserve cap is above 0 (R65). That CONTESTED is
tested on the plan as it stood before a DUE-NOW arrival acts is the model's reading: log entry 12; that the draft's
CLASS is not read is log entry 19's. A frame row with SEL high is log entry 4's. -/
def Obligations.PostCommitsTheBooking : Prop :=
  (∀ (s : State) (c : Client) (v : Value) (f : Flow) (n : Nat) (start : AirTime) (adv : Bool),
    s.plans c → s.flowNamed c v.toNat = some f →
    shapeOk s.policy.guardTime (s.links.get c).draft.duration.toNat (s.links.get c).draft.period.toNat
      (s.links.get c).draft.count.toNat = true →
    s.entryCount c < 16 → s.freeEntry = some n →
    resolveStart s.clock (s.links.get c).draft.start (s.trimmedSlide (s.links.get c).draft)
      (s.links.get c).draft.period.toNat = .at start adv →
    (s.policy.clients.get c).cap ≠ 0 →
    s.plannedLoad c + loadFigure (s.links.get c).draft.duration.toNat (s.links.get c).draft.period.toNat ≤
      (s.policy.clients.get c).cap →
    s.totalLoad + loadFigure (s.links.get c).draft.duration.toNat (s.links.get c).draft.period.toNat ≤ 1024 →
    ∃ x : Entry,
      x = { number := n, owner := c, flow := f.slot, start := start,
            duration := (s.links.get c).draft.duration.toNat,
            period := (s.links.get c).draft.period.toNat,
            count := if (s.links.get c).draft.period.toNat = 0 then 1 else (s.links.get c).draft.count.toNat,
            slide := s.trimmedSlide (s.links.get c).draft,
            load := loadFigure (s.links.get c).draft.duration.toNat (s.links.get c).draft.period.toNat,
            status := .scheduled, pendingOffset := none } ∧
      exec (.post c v) s = .next
        ((({ s.frameTaken c with plan := insertEntry x s.plan } : State).wake n).answer c
          (if s.contested x then .contested else .ok)
          (BitVec.ofNat 24 (n + (if s.trimmedSlide (s.links.get c).draft < (s.links.get c).draft.slide.toNat
            then 256 else 0) + (if adv then 512 else 0) + if reached s.clock start then 1024 else 0))) ∧
      (reached s.clock start = false →
        ({ s.frameTaken c with plan := insertEntry x s.plan } : State).wake n =
          { s.frameTaken c with plan := insertEntry x s.plan })) ∧
  (∀ (s : State) (k : Nat), s.freeEntry = some k ↔
    k < 32 ∧ (∀ e ∈ s.plan, e.number ≠ k) ∧ ∀ j, j < k → ∃ e ∈ s.plan, e.number = j) ∧
  ∀ (s : State) (x : Entry), s.contested x = true ↔
    ∃ e ∈ s.plan, e.owner ≠ x.owner ∧ e.isSuspended = false ∧ s.baseOf x.flow ≤ s.baseOf e.flow ∧
      later (after e.start (e.duration + e.slide)) x.start = true ∧
      later (after x.start x.duration) e.start = true

/-- POST's refusals in the order freeze, handle, shape, capacity, start, load; each changes nothing but the reply and
presence, and LOAD alone sets REFUSED; a cap of 0 admits no entry at all (R61, R65). A frame row with SEL high is log
entry 4's. -/
def Obligations.PostRefusalsComeInOrder : Prop :=
  (∀ (s : State) (c : Client) (v : Value), s.admits c → (s.sup.get c).frozen = true →
    exec (.post c v) s = .next (s.answered c (.answer .locked 0))) ∧
  (∀ (s : State) (c : Client) (v : Value), s.plans c → s.flowNamed c v.toNat = none →
    exec (.post c v) s = .next (s.answered c (.answer .unknown 0))) ∧
  ∀ (s : State) (c : Client) (v : Value) (f : Flow) (d : Draft), s.plans c →
    s.flowNamed c v.toNat = some f → (s.links.get c).draft = d →
    (shapeOk s.policy.guardTime d.duration.toNat d.period.toNat d.count.toNat = false →
      exec (.post c v) s = .next (s.answered c (.answer .range 0))) ∧
    (shapeOk s.policy.guardTime d.duration.toNat d.period.toNat d.count.toNat = true →
      (16 ≤ s.entryCount c ∨ s.freeEntry = none) →
      exec (.post c v) s = .next (s.answered c (.answer .noRoom 0))) ∧
    (shapeOk s.policy.guardTime d.duration.toNat d.period.toNat d.count.toNat = true →
      s.entryCount c < 16 → s.freeEntry ≠ none →
      resolveStart s.clock d.start (s.trimmedSlide d) d.period.toNat = .late →
      exec (.post c v) s = .next (s.answered c (.answer .late 0))) ∧
    ∀ start adv, shapeOk s.policy.guardTime d.duration.toNat d.period.toNat d.count.toNat = true →
      s.entryCount c < 16 → s.freeEntry ≠ none →
      resolveStart s.clock d.start (s.trimmedSlide d) d.period.toNat = .at start adv →
      ((s.policy.clients.get c).cap = 0 ∨
        (s.policy.clients.get c).cap < s.plannedLoad c + loadFigure d.duration.toNat d.period.toNat ∨
        1024 < s.totalLoad + loadFigure d.duration.toNat d.period.toNat) →
      exec (.post c v) s = .next { s.answered c (.answer .load 0) with
        port := { s.port with flags := s.port.flags ||| 0x200 } }

/-- The arithmetic of a posting: the shape step (R62), the load figure as the exact ceiling, 1..1024 for an admitted
periodic entry and 0 for a one-shot (R60), the slide trimmed to the smaller of 100,000 and period − duration − G, or to
100,000 for a one-shot (R63), and the resolution of START in its four cases (R64). -/
def Obligations.PostingArithmetic : Prop :=
  (∀ g d p n : Nat, shapeOk g d p n = true ↔
    50 ≤ d ∧ d ≤ 20000 ∧ (p = 0 ∨ 1000 ≤ p ∧ p ≤ 1000000 ∧ d + g ≤ p) ∧ n ≤ 65535) ∧
  (∀ g d p n : Nat, shapeOk g d p n = true → p ≠ 0 →
    1 ≤ loadFigure d p ∧ loadFigure d p ≤ 1024 ∧ d * 1024 ≤ loadFigure d p * p ∧
      (loadFigure d p - 1) * p < d * 1024) ∧
  (∀ d : Nat, loadFigure d 0 = 0) ∧
  (∀ g d p n x : Nat, shapeOk g d p n = true → p ≠ 0 →
    d + min x (slideLimit g d p) + g ≤ p ∧ min x (slideLimit g d p) ≤ 100000) ∧
  (∀ g d p : Nat, slideLimit g d p = if p = 0 then 100000 else min 100000 (p - d - g)) ∧
  (∀ (s : State) (x : Draft), s.trimmedSlide x =
    if x.period.toNat = 0 then min x.slide.toNat 100000
    else min x.slide.toNat (min 100000 (x.period.toNat - x.duration.toNat - s.policy.guardTime))) ∧
  ∀ (t : AirTime) (start : Value) (slide period delta : Nat),
    delta = (start.toNat + 2 ^ 24 - t.toNat % 2 ^ 24) % 2 ^ 24 →
    (delta < 2 ^ 23 →
      resolveStart t start slide period = .at (t + BitVec.ofNat 32 delta) false) ∧
    (2 ^ 23 ≤ delta → 2 ^ 24 - delta ≤ slide →
      resolveStart t start slide period = .at (t - BitVec.ofNat 32 (2 ^ 24 - delta)) false) ∧
    (2 ^ 23 ≤ delta → slide < 2 ^ 24 - delta → period = 0 → resolveStart t start slide period = .late) ∧
    (2 ^ 23 ≤ delta → slide < 2 ^ 24 - delta → period ≠ 0 →
      ∃ k, 2 ^ 24 - delta ≤ k * period ∧ (k - 1) * period < 2 ^ 24 - delta ∧
        resolveStart t start slide period =
          .at (t - BitVec.ofNat 32 (2 ^ 24 - delta) + BitVec.ofNat 32 (k * period)) true)

/-- RETIME: on a DUE or HOLDING entry the offset is held pending, replacing any before it (R78); on a SCHEDULED entry
the start moves at once, to the present air time if the moved start has been reached, and the entry then falls due
(R77). A frozen client gets LOCKED (R38), a number that is not its own UNKNOWN (R75, R77). An offset of 0 on an entry
whose start has been reached and not yet taken makes it DUE: log entry 13. A frame row with SEL high is log entry 4's. -/
def Obligations.RetimeMovesOrHoldsTheStart : Prop :=
  (∀ (s : State) (c : Client) (v : Value) (e : Entry), s.plans c →
    s.entryNamed c (v.extractLsb' 16 8).toNat = some e → (e.status = .due ∨ ∃ g, e.status = .holding g) →
    exec (.retime c v) s = .next { s.answered c (.answer .ok 0) with
      plan := onNumber e.number
        (fun x => some { x with pendingOffset := some (v.extractLsb' 0 13) }) s.plan }) ∧
  (∀ (s : State) (c : Client) (v : Value) (e : Entry), s.plans c →
    s.entryNamed c (v.extractLsb' 16 8).toNat = some e → e.status = .scheduled →
    reached s.clock (e.start + (v.extractLsb' 0 13).signExtend 32) = false →
    exec (.retime c v) s = .next { s.answered c (.answer .ok 0) with
      plan := onNumber e.number (fun x => some { x with
        start := clampReached s.clock (x.start + (v.extractLsb' 0 13).signExtend 32) }) s.plan } ∧
    clampReached s.clock (e.start + (v.extractLsb' 0 13).signExtend 32) =
      e.start + (v.extractLsb' 0 13).signExtend 32) ∧
  (∀ (s : State) (c : Client) (v : Value) (e : Entry), s.plans c →
    s.entryNamed c (v.extractLsb' 16 8).toNat = some e → e.status = .scheduled →
    reached s.clock (e.start + (v.extractLsb' 0 13).signExtend 32) = true →
    exec (.retime c v) s = .next
      ((({ s.frameTaken c with
          plan := onNumber e.number (fun x => some { x with
            start := clampReached s.clock (x.start + (v.extractLsb' 0 13).signExtend 32) }) s.plan } :
        State).wake e.number).answer c .ok 0) ∧
    clampReached s.clock (e.start + (v.extractLsb' 0 13).signExtend 32) = s.clock) ∧
  (∀ (s : State) (c : Client) (v : Value), s.admits c → (s.sup.get c).frozen = true →
    exec (.retime c v) s = .next (s.answered c (.answer .locked 0)) ∧
      exec (.cancel c v) s = .next (s.answered c (.answer .locked 0))) ∧
  (∀ (s : State) (c : Client) (v : Value), s.plans c →
    s.entryNamed c (v.extractLsb' 16 8).toNat = none →
    exec (.retime c v) s = .next (s.answered c (.answer .unknown 0))) ∧
  ∀ (s : State) (c : Client) (v : Value), s.plans c → s.entryNamed c v.toNat = none →
    exec (.cancel c v) s = .next (s.answered c (.answer .unknown 0))

/-- CANCEL of a client's own entry and DROP ENTRY of any entry remove it in whatever state it stands, DROP ENTRY
giving its owner ENDED unless it is DETACHED; an entry with no claim on the board goes with nothing else changed, and
for a DUE or HOLDING one the arbiter answers the departure of its occurrence (R74, R75, R76, R98, R99). A frame row with SEL high is log entry 4's. -/
def Obligations.CancelAndDropRemoveTheEntry : Prop :=
  (∀ (s : State) (c : Client) (v : Value) (e : Entry), s.plans c → s.entryNamed c v.toNat = some e →
    ∃ t, exec (.cancel c v) s = .next t ∧ (∀ x ∈ t.plan, x.number ≠ v.toNat) ∧
      (t.links.get c).reply = .answer .ok 0) ∧
  (∀ (s : State) (c : Client) (v : Value) (e : Entry), s.plans c → s.entryNamed c v.toNat = some e →
    e.isDue = false → e.isHolding = false →
    exec (.cancel c v) s = .next { s.answered c (.answer .ok 0) with
      plan := s.plan.filter (fun x => x.number != v.toNat) }) ∧
  (∀ (s : State) (c : Client) (v : Value) (e : Entry), s.plans c → s.entryNamed c v.toNat = some e →
    (e.isDue = true ∨ e.isHolding = true) →
    exec (.cancel c v) s = .next (((s.frameTaken c).claimsLeft
      { s.frameTaken c with plan := s.plan.filter (fun x => x.number != v.toNat) } c).answer c .ok 0)) ∧
  (∀ (s : State) (b : Byte) (e : Entry), s.resetn = true → s.entryAt b.toNat = some e →
    (e.isDue = true ∨ e.isHolding = true) →
    exec (.dropEntry b) s = .next { (s.claimsLeft
      { s.giveNotice e.owner .ended with plan := s.plan.filter (fun x => x.number != b.toNat) } e.owner) with
        port := s.port.wrote .ok [] }) ∧
  (∀ (s : State) (b : Byte) (e : Entry), s.resetn = true → s.entryAt b.toNat = some e →
    ∃ t, exec (.dropEntry b) s = .next t ∧ (∀ x ∈ t.plan, x.number ≠ b.toNat) ∧
      ((s.sup.get e.owner).state ≠ .detached → (t.links.get e.owner).notices.getLsbD 1 = true) ∧
      t.port = s.port.wrote .ok []) ∧
  (∀ (s : State) (b : Byte) (e : Entry), s.resetn = true → s.entryAt b.toNat = some e →
    e.isDue = false → e.isHolding = false →
    exec (.dropEntry b) s = .next { s.giveNotice e.owner .ended with
      plan := s.plan.filter (fun x => x.number != b.toNat), port := s.port.wrote .ok [] }) ∧
  ∀ (s : State) (b : Byte), s.resetn = true → s.entryAt b.toNat = none →
    exec (.dropEntry b) s = .next { s with port := s.port.refused .range }

/-- A SCHEDULED entry whose start is reached falls DUE and its claim arrives (R68): for the next holder nothing else
changes (R95); for the holder with no waiting claim the occurrence joins, its flow's streak 0 and Grants raised (R69,
R54, R55). Before the start, for an entry that is not SCHEDULED and for a free number nothing happens: the model's
choice, log entry 5. An entry that falls due within another row does so as by this one. -/
def Obligations.StartReachedFallsDue : Prop :=
  (∀ (s : State) (n : Fin 32) (e : Entry), s.resetn = true → s.entryAt n.val = some e →
    e.status = .scheduled → reached s.clock e.start = true →
    exec (.startReached n) s =
      .next ((s.onEntry n.val fun x => some { x with status := .due }).claimArrived e.owner)) ∧
  (∀ (s : State) (n : Fin 32) (e : Entry) (g : AirTime), s.resetn = true → s.entryAt n.val = some e →
    e.status = .scheduled → reached s.clock e.start = true → s.arb.mode = .settling e.owner g →
    exec (.startReached n) s =
      .next { s with plan := onNumber n.val (fun x => some { x with status := .due }) s.plan }) ∧
  (∀ (s : State) (n : Fin 32) (e : Entry), s.resetn = true → s.entryAt n.val = some e →
    e.status = .scheduled → reached s.clock e.start = true → s.arb.mode = .held e.owner →
    s.waitingClaims e.owner = [] → s.plan.Pairwise (fun x y => x.number < y.number) →
    exec (.startReached n) s = .next { s with
      plan := onNumber n.val (fun x => some { x with status := .holding s.clock }) s.plan
      flows := onSlot e.flow
        (fun f => { f with streak := 0, grants := min 65535 (f.grants + 1) }) s.flows }) ∧
  (∀ (s : State) (n : Fin 32) (e : Entry), s.entryAt n.val = some e →
    (e.status ≠ .scheduled ∨ reached s.clock e.start = false) → exec (.startReached n) s = .next s) ∧
  ∀ (s : State) (n : Fin 32), (s.entryAt n.val = none → exec (.startReached n) s = .next s) ∧
    (s.resetn = true → exec (.startReached n) s = .next (s.wake n.val))

/-- A missed occurrence raises the flow's Missed counter and streak and the window's miss count and gives MISSED; a
served one raises Served; each then advances or, on its last count, retires with ENDED (R53, R55, R70, R71, R73, R78),
and the arbiter answers its departure (R98, R99). An advanced start already reached makes the entry DUE at once (R68,
R73): on a serve it joins its holder's holding before that answer, on a miss it arrives after that answer and after the
check that a raised streak brings where another claim of the flow waits (R53, R103): log entry 10. Before the deadline nothing happens: the model's choice, log entry 5. -/
def Obligations.OccurrencesAreMissedOrServed : Prop :=
  (∀ (s : State) (n : Fin 32) (e : Entry), s.resetn = true → s.entryAt n.val = some e → e.status = .due →
    reached s.clock (e.start + BitVec.ofNat 32 (e.slide + 1)) = true →
    s.plan.Pairwise (fun x y => x.number < y.number) →
    ∃ u t : State, exec (.miss n) s = .next t ∧
      u = { (if e.count = 1 then (s.giveNotice e.owner .missed).giveNotice e.owner .ended
          else s.giveNotice e.owner .missed) with
        flows := onSlot e.flow
          (fun f => { f with streak := min 15 (f.streak + 1), missed := min 65535 (f.missed + 1) }) s.flows
        acct := { s.acct with misses := min 65535 (s.acct.misses + 1) }
        plan := s.planAfter e.number } ∧
      (∀ f, s.flowAt e.flow = some f → f.streak < 15 → u.flowWaits e.owner e.flow = true →
        t = ((s.claimsLeft u e.owner).stateCheck).wake e.number) ∧
      ((∀ f, s.flowAt e.flow = some f → f.streak < 15 → u.flowWaits e.owner e.flow = false) →
        t = (s.claimsLeft u e.owner).wake e.number) ∧
      ((e.count = 1 ∨ reached s.clock (e.advancedStart s.clock) = false) →
        (s.claimsLeft u e.owner).wake e.number = s.claimsLeft u e.owner) ∧
      t.acct.misses = min 65535 (s.acct.misses + 1) ∧
      ((s.sup.get e.owner).state ≠ .detached → (t.links.get e.owner).notices.getLsbD 3 = true) ∧
      (∀ f ∈ s.flows, f.slot = e.flow → ∃ g ∈ t.flows, g.slot = e.flow ∧ g.owner = f.owner ∧
        g.handle = f.handle ∧ g.missed = min 65535 (f.missed + 1)) ∧
      (e.count = 1 → (∀ x ∈ t.plan, x.number ≠ e.number) ∧
        ((s.sup.get e.owner).state ≠ .detached → (t.links.get e.owner).notices.getLsbD 1 = true)) ∧
      (e.count ≠ 1 → ∃ x ∈ t.plan, x.number = e.number ∧ x.count = e.count - 1 ∧
        x.start = e.advancedStart s.clock ∧ x.pendingOffset = none)) ∧
  (∀ (s : State) (n : Fin 32) (e : Entry) (g : AirTime), s.resetn = true → s.entryAt n.val = some e →
    e.status = .holding g → reached s.clock (e.occurrenceEnd g) = true →
    s.plan.Pairwise (fun x y => x.number < y.number) →
    ∃ u t : State, exec (.occurrenceEnd n) s = .next t ∧
      u = { (if e.count = 1 then s.giveNotice e.owner .ended else s) with
        flows := onSlot e.flow (fun f => { f with served := min 65535 (f.served + 1) }) s.flows
        plan := s.planAfter e.number } ∧
      t = s.claimsLeft (u.wake e.number) e.owner ∧
      ((e.count = 1 ∨ reached s.clock (e.advancedStart s.clock) = false) → t = s.claimsLeft u e.owner) ∧
      (∀ f ∈ s.flows, f.slot = e.flow → ∃ h ∈ t.flows, h.slot = e.flow ∧ h.owner = f.owner ∧
        h.handle = f.handle ∧ h.served = min 65535 (f.served + 1)) ∧
      (e.count = 1 → (∀ x ∈ t.plan, x.number ≠ e.number) ∧
        ((s.sup.get e.owner).state ≠ .detached → (t.links.get e.owner).notices.getLsbD 1 = true)) ∧
      (e.count ≠ 1 → reached s.clock (e.advancedStart s.clock) = false →
        ∃ x ∈ t.plan, x.number = e.number ∧ x.status = .scheduled ∧ x.count = e.count - 1 ∧
          x.start = e.advancedStart s.clock ∧ x.pendingOffset = none) ∧
      (e.count ≠ 1 → reached s.clock (e.advancedStart s.clock) = true → s.arb.mode = .held e.owner →
        (∀ d, d ≠ e.owner → s.waitingClaims d = []) →
        ∃ x ∈ t.plan, x.number = e.number ∧ x.status = .holding s.clock ∧ x.count = e.count - 1 ∧
          x.start = e.advancedStart s.clock ∧ x.pendingOffset = none)) ∧
  (∀ (s : State) (n : Fin 32) (e : Entry), s.entryAt n.val = some e →
    reached s.clock (e.start + BitVec.ofNat 32 (e.slide + 1)) = false → exec (.miss n) s = .next s) ∧
  (∀ (s : State) (n : Fin 32) (e : Entry) (g : AirTime), s.entryAt n.val = some e → e.status = .holding g →
    reached s.clock (e.occurrenceEnd g) = false → exec (.occurrenceEnd n) s = .next s) ∧
  (∀ (e : Entry) (g : AirTime), e.occurrenceEnd g =
    earlierOf (g + BitVec.ofNat 32 e.duration) (e.start + BitVec.ofNat 32 (e.slide + e.duration))) ∧
  ∀ (e : Entry) (now : AirTime),
    (e.pendingOffset = none → e.advancedStart now = e.start + BitVec.ofNat 32 e.period) ∧
    ∀ o, e.pendingOffset = some o → e.advancedStart now =
      if reached now (e.start + BitVec.ofNat 32 e.period + o.signExtend 32) then now
      else e.start + BitVec.ofNat 32 e.period + o.signExtend 32

/-- While its client is SILENT a periodic entry's start rises by one period when reached, and a one-shot is marked
expired when its window has ended; no other entry and nothing else changes (R79). Before its start a step changes
nothing: the model's choice, log entry 5. -/
def Obligations.SuspendedEntriesKeepStepping : Prop :=
  (∀ (s : State) (n : Fin 32) (e : Entry), s.resetn = true → s.entryAt n.val = some e →
    e.isSuspended = true → e.period ≠ 0 → reached s.clock e.start = true →
    ∃ t, exec (.suspendedStep n) s = .next t ∧ t = { s with plan := t.plan } ∧
      t.entryAt n.val = some { e with start := e.start + BitVec.ofNat 32 e.period } ∧
      ∀ m, m ≠ n.val → t.entryAt m = s.entryAt m) ∧
  (∀ (s : State) (n : Fin 32) (e : Entry), s.resetn = true → s.entryAt n.val = some e →
    e.status = .suspended false → e.period = 0 →
    reached s.clock (e.start + BitVec.ofNat 32 e.slide) = true →
    ∃ t, exec (.oneshotExpired n) s = .next t ∧ t = { s with plan := t.plan } ∧
      t.entryAt n.val = some { e with status := .suspended true } ∧
      ∀ m, m ≠ n.val → t.entryAt m = s.entryAt m) ∧
  ∀ (s : State) (n : Fin 32) (e : Entry), s.plan.Pairwise (fun x y => x.number < y.number) →
    s.entryAt n.val = some e → reached s.clock e.start = false →
    exec (.suspendedStep n) s = .next s

/-! ## Channel map unit and the small frames -/

/-- CHANNEL NOTE from NR replaces the note and both masks, gives MASK to SR and to AR exactly when its mask's content
changed and it is not DETACHED, and answers with the usable counts; an offset of 1..11 or 85..255 answers RANGE, and
SR and AR get ROLE, with nothing else changed (R39, R129, R134, R135). A frame row with SEL high is log entry 4's. -/
def Obligations.ChannelNoteRecomputesTheMasks : Prop :=
  (∀ (s : State) (v : Value) (u : ChannelUnit), s.admits .nr →
    ((v.extractLsb' 0 8 = 0 ∧ u = ⟨none, [], [], 0, 0⟩) ∨
      (12 ≤ (v.extractLsb' 0 8).toNat ∧ (v.extractLsb' 0 8).toNat ≤ 84 ∧
        u = computeChannel
          (some ⟨2400 + (v.extractLsb' 0 8).toNat, if v.getLsbD 8 then .w40 else .w20⟩)
          s.policy.channelGuard)) →
    exec (.channelNote .nr v) s = .next { s with
      sup := s.supAfterFrame .nr
      channel := u
      links :=
        { nr := { s.links.nr with
            receive := .ready, announce := s.links.nr.flagAfterFrame
            reply := .answer .ok
              (BitVec.ofNat 24 ((79 - u.srAvoided.length) + 256 * (16 - u.arAvoided.length))) }
          sr :=
            if u.srAvoided ≠ s.channel.srAvoided ∧ s.sup.sr.state ≠ .detached then
              { s.links.sr with notices := s.links.sr.notices ||| 0x01 }
            else s.links.sr
          ar :=
            if u.arAvoided ≠ s.channel.arAvoided ∧ s.sup.ar.state ≠ .detached then
              { s.links.ar with notices := s.links.ar.notices ||| 0x01 }
            else s.links.ar } }) ∧
  (∀ (s : State) (v : Value), s.admits .nr →
    (1 ≤ (v.extractLsb' 0 8).toNat ∧ (v.extractLsb' 0 8).toNat ≤ 11 ∨ 85 ≤ (v.extractLsb' 0 8).toNat) →
    exec (.channelNote .nr v) s = .next (s.answered .nr (.answer .range 0))) ∧
  ∀ (s : State) (c : Client) (v : Value), s.admits c → c ≠ .nr →
    exec (.channelNote c v) s = .next (s.answered c (.answer .role 0))

/-- The masks: before restoration an SR channel is avoided when its centre lies in the covered band and an AR channel
when its 2 MHz span reaches it (R130, R131, R132); after it at least 20 SR and 4 AR channels are usable, only marked
channels are avoided, each restored channel lies farther from Fc than every channel left avoided or, at the same
distance, below it, and the restored counts are those of the channels restored (R133, R137). -/
def Obligations.MasksLeaveTheMinimumUsable : Prop :=
  ∀ (n : ChannelNote) (g : Nat), 2412 ≤ n.centre → n.centre ≤ 2484 → g ≤ 15 →
    (∀ k, k ∈ srMarked n g ↔ k < 79 ∧
      n.centre ≤ 2402 + k + widthMHz n.width / 2 + g ∧ 2402 + k ≤ n.centre + widthMHz n.width / 2 + g) ∧
    (∀ m, m ∈ arMarked n g ↔ m < 16 ∧
      n.centre ≤ 2405 + 5 * m + 1 + widthMHz n.width / 2 + g ∧
      2405 + 5 * m - 1 ≤ n.centre + widthMHz n.width / 2 + g) ∧
    (∀ k ∈ (computeChannel (some n) g).srAvoided, k ∈ srMarked n g) ∧
    (∀ m ∈ (computeChannel (some n) g).arAvoided, m ∈ arMarked n g) ∧
    79 - (computeChannel (some n) g).srAvoided.length = max 20 (79 - (srMarked n g).length) ∧
    16 - (computeChannel (some n) g).arAvoided.length = max 4 (16 - (arMarked n g).length) ∧
    (∀ k ∈ srMarked n g, k ∉ (computeChannel (some n) g).srAvoided →
      ∀ j ∈ (computeChannel (some n) g).srAvoided,
        distance (2402 + j) n.centre < distance (2402 + k) n.centre ∨
          distance (2402 + j) n.centre = distance (2402 + k) n.centre ∧ k < j) ∧
    (∀ k ∈ arMarked n g, k ∉ (computeChannel (some n) g).arAvoided →
      ∀ j ∈ (computeChannel (some n) g).arAvoided,
        distance (2405 + 5 * j) n.centre < distance (2405 + 5 * k) n.centre ∨
          distance (2405 + 5 * j) n.centre = distance (2405 + 5 * k) n.centre ∧ k < j) ∧
    (computeChannel (some n) g).srRestored =
      (srMarked n g).length - (computeChannel (some n) g).srAvoided.length ∧
    (computeChannel (some n) g).arRestored =
      (arMarked n g).length - (computeChannel (some n) g).arAvoided.length

/-- CLEAR NOTES answers the snapshot and clears the flags set in it and in the mask (R152); a parameter frame writes
its VALUE unchanged into the draft field of its index, 6..31 naming none (R149); a reserved frame answers RANGE in
every client state (R142); a FETCH of any item waits in the register for its capture (R146, R147, R150). A frame row
with SEL high is log entry 4's. -/
def Obligations.FramesThatTouchOneLink : Prop :=
  (∀ (s : State) (c : Client) (v : Value), s.takes c →
    exec (.clearNotes c v) s = .next { s with
      sup := s.supAfterFrame c
      links := s.links.set c { s.links.get c with
        receive := .ready, announce := (s.links.get c).flagAfterFrame
        reply := .answer .ok ((s.links.get c).notices.setWidth 24)
        notices := (s.links.get c).notices &&& ~~~(v.extractLsb' 0 7) } }) ∧
  (∀ (s : State) (c : Client) (v : Value) (k : BitVec 5) (d : Draft), s.admits c →
    d = (s.links.get c).draft → k.toNat < 6 →
    exec (.parameterFrame c k v) s = .next { s with
      sup := s.supAfterFrame c
      links := s.links.set c { s.links.get c with
        receive := .ready, announce := (s.links.get c).flagAfterFrame, reply := .answer .ok 0
        draft :=
          { flowClass := if k = 0 then v else d.flowClass
            start := if k = 1 then v else d.start
            duration := if k = 2 then v else d.duration
            period := if k = 3 then v else d.period
            count := if k = 4 then v else d.count
            slide := if k = 5 then v else d.slide } } }) ∧
  (∀ (s : State) (c : Client) (v : Value) (k : BitVec 5), s.admits c → 6 ≤ k.toNat →
    exec (.parameterFrame c k v) s = .next (s.answered c (.answer .range 0))) ∧
  (∀ (s : State) (c : Client) (kind : BitVec 2) (k : BitVec 5) (v : Value), s.takes c →
    exec (.reservedFrame c kind k v) s = .next (s.answered c (.answer .range 0))) ∧
  ∀ (s : State) (c : Client) (a : BitVec 16) (item : BitVec 8) (i : Instr), s.takes c →
    (i = .fetchTime c a ∧ item = 0 ∨ i = .fetchStatus c a ∧ item = 1 ∨ i = .fetchNotes c a ∧ item = 2 ∨
      i = .fetchAccount c a ∧ item = 3 ∨ i = .fetchLast c a ∧ item = 4 ∨
      i = .fetchMask c 0 a ∧ item = 5 ∨ i = .fetchMask c 1 a ∧ item = 6 ∨
      i = .fetchMask c 2 a ∧ item = 7 ∨ i = .fetchMask c 3 a ∧ item = 8 ∨
      i = .fetchFlow c a ∧ item = 9 ∨ i = .fetchFlowcount c a ∧ item = 10 ∨
      i = .fetchEntry c a ∧ item = 11 ∨ i = .fetchItemAbove11 c item a) →
    exec i s = .next (s.answered c (.fetch item a))

/-! ## Live requests -/

/-- A REQ rise makes a live claim exactly when the client is OPENING or ACTIVE, bound, and its live claim IDLE: the
claim carries the recorded PRIO level and waits, or holds at once where the arbiter grants it; otherwise only the
recorded level changes (R113, R114, R115). For the next holder nothing but the claim changes (R95). -/
def Obligations.ReqRiseMakesTheClaim : Prop :=
  (∀ (s : State) (c : Client), s.resetn = true → (s.live.get c).reqLevel = false →
    (s.admitted c = false ∨ (s.live.get c).binding = none ∨ (s.live.get c).state ≠ .idle) →
    exec (.reqRise c) s =
      .next { s with live := s.live.set c { s.live.get c with reqLevel := true } }) ∧
  (∀ (s : State) (c : Client) (k : Nat), s.resetn = true → (s.live.get c).reqLevel = false →
    s.admitted c = true → (s.live.get c).binding = some k → (s.live.get c).state = .idle →
    exec (.reqRise c) s = .next (State.claimArrived { s with
      live := s.live.set c { s.live.get c with
        reqLevel := true
        state := .waiting (s.live.get c).prioLevel
          (s.clock + BitVec.ofNat 32 s.policy.agingInterval) } } c)) ∧
  (∀ (s : State) (c : Client) (k : Nat), s.resetn = true → (s.live.get c).reqLevel = false →
    s.admitted c = true → (s.live.get c).binding = some k → (s.live.get c).state = .idle →
    ∃ t, exec (.reqRise c) s = .next t ∧ (t.live.get c).reqLevel = true ∧
      (t.live.get c).binding = some k ∧
      ((t.live.get c).state = .waiting (s.live.get c).prioLevel
          (s.clock + BitVec.ofNat 32 s.policy.agingInterval) ∨
        t.gnt c = true ∧ ∃ d, (t.live.get c).state = .holding (s.live.get c).prioLevel s.clock d)) ∧
  ∀ (s : State) (c : Client) (k : Nat) (g : AirTime), s.resetn = true → (s.live.get c).reqLevel = false →
    s.admitted c = true → (s.live.get c).binding = some k → (s.live.get c).state = .idle →
    s.arb.mode = .settling c g →
    exec (.reqRise c) s = .next { s with live := s.live.set c { s.live.get c with
      reqLevel := true
      state := .waiting (s.live.get c).prioLevel (s.clock + BitVec.ofNat 32 s.policy.agingInterval) } }

/-- A REQ fall returns the live claim to IDLE with its binding kept; from SPENT or IDLE nothing is reported and
nothing else changes (R121); from WAITING or HOLDING the arbiter answers the departure of the claim (R98, R99); the
release of the holder's last claim lowers its GNT (R122, R98). A PRIO edge changes the recorded level alone (R113). -/
def Obligations.ReqFallReleases : Prop :=
  (∀ (s : State) (c : Client), s.resetn = true → (s.live.get c).reqLevel = true →
    ((s.live.get c).state = .spent ∨ (s.live.get c).state = .idle) →
    exec (.reqFall c) s = .next { s with
      live := s.live.set c { s.live.get c with state := .idle, reqLevel := false } }) ∧
  (∀ (s : State) (c : Client), s.resetn = true → (s.live.get c).reqLevel = true →
    ∃ t, exec (.reqFall c) s = .next t ∧
      t.live.get c = { s.live.get c with state := .idle, reqLevel := false } ∧
      (s.arb.mode = .held c → s.liveHolding c ≠ none → s.heldSlots c = [] → s.dueSlots c = [] →
        t.gnt c = false ∧ t.acct.preemptions = s.acct.preemptions)) ∧
  (∀ (s : State) (c : Client), s.resetn = true → (s.live.get c).reqLevel = true →
    ((∃ u d, (s.live.get c).state = .waiting u d) ∨ ∃ u a d, (s.live.get c).state = .holding u a d) →
    exec (.reqFall c) s = .next (s.claimsLeft
      { s with live := s.live.set c { s.live.get c with state := .idle, reqLevel := false } } c)) ∧
  ∀ (s : State) (c : Client) (x : Bool), s.resetn = true →
    exec (.prioEdge c x) s =
      .next { s with live := s.live.set c { s.live.get c with prioLevel := x } }

/-- AGING EXPIRY raises the bound flow's streak up to 15 and sets the next aging deadline one interval on; a streak
that changed brings the arbiter's check, one at 15 none (R116). HOLD EXPIRY ends the claim in SPENT, counts the
overstay in the flow and in the window and gives both OVERSTAY notices, and the arbiter answers the departure of the
claim (R120, R98). Before the deadline nothing happens:
the model's choice, log entry 5. -/
def Obligations.LiveClaimTimersExpire : Prop :=
  (∀ (s : State) (c : Client) (k : Nat) (u : Bool) (d : AirTime) (f : Flow), s.resetn = true →
    (s.live.get c).state = .waiting u d → (s.live.get c).binding = some k → s.flowAt k = some f →
    reached s.clock d = true →
    ∃ t : State, t = { s with
        flows := onSlot k (fun x => { x with streak := min 15 (x.streak + 1) }) s.flows
        live := s.live.set c { s.live.get c with
          state := .waiting u (d + BitVec.ofNat 32 s.policy.agingInterval) } } ∧
      (f.streak < 15 → exec (.agingExpiry c) s = .next t.stateCheck) ∧
      (15 ≤ f.streak → exec (.agingExpiry c) s = .next t)) ∧
  (∀ (s : State) (c : Client) (k : Nat) (u : Bool) (h d : AirTime), s.resetn = true →
    (s.live.get c).state = .holding u h d → (s.live.get c).binding = some k → reached s.clock d = true →
    ∃ t, exec (.holdExpiry c) s = .next t ∧ t = s.claimsLeft (s.overstayed c k) c ∧ t.live.get c = { s.live.get c with state := .spent } ∧
      t.acct.overstays = min 65535 (s.acct.overstays + 1) ∧
      t.port = { s.port with flags := s.port.flags ||| 0x020 } ∧
      ((s.sup.get c).state ≠ .detached → (t.links.get c).notices.getLsbD 4 = true) ∧
      ∀ f ∈ s.flows, f.slot = k → ∃ g ∈ t.flows, g.slot = k ∧ g.owner = f.owner ∧ g.handle = f.handle ∧
        g.overstays = min 65535 (f.overstays + 1)) ∧
  (∀ (s : State) (c : Client) (u : Bool) (d : AirTime), (s.live.get c).state = .waiting u d →
    reached s.clock d = false → exec (.agingExpiry c) s = .next s) ∧
  ∀ (s : State) (c : Client) (u : Bool) (h d : AirTime), (s.live.get c).state = .holding u h d →
    reached s.clock d = false → exec (.holdExpiry c) s = .next s

/-! ## Grant arbiter -/

/-- The end of the guard: from PARKING to FREE, the switch left where it stands and the idle counter charged from then
on (R97); from SETTLING to HELD, every waiting claim of the next holder turning holding together, each such flow's
streak 0 and Grants raised once for each claim, the live claim's hold deadline set by its flow's class (R96, R69, R54,
R55, R118). Before the deadline nothing happens: the model's choice, log entry 5. -/
def Obligations.GuardEndGrantsOrFrees : Prop :=
  (∀ (s : State) (g : AirTime), s.resetn = true → s.arb.mode = .parking g → reached s.clock g = true →
    s.chargeFollows →
    exec .guardEndParking s = .next { s with
      arb := { s.arb with mode := .free }
      acct := { s.acct with
        guardTime := s.guardNow, charged := .idleTime, chargeStart := s.clock } }) ∧
  (∀ (s : State) (c : Client) (g : AirTime), s.resetn = true → s.arb.mode = .settling c g →
    reached s.clock g = true → s.chargeFollows →
    ∃ t, exec .guardEndSettling s = .next t ∧
      t = { s with arb := t.arb, acct := t.acct, plan := t.plan, flows := t.flows, live := t.live } ∧
      t.arb = { s.arb with mode := .held c } ∧
      t.acct = { s.acct with
        guardTime := s.guardNow, charged := .usage c, chargeStart := s.clock } ∧
      t.gnt c = true ∧ t.waitingClaims c = [] ∧
      t.plan = s.plan.map (fun e =>
        if e.owner = c ∧ e.status = .due then { e with status := .holding s.clock } else e) ∧
      (∀ d, d ≠ c → t.live.get d = s.live.get d) ∧
      (∀ u d k f, (s.live.get c).state = .waiting u d → (s.live.get c).binding = some k →
        s.flowAt k = some f →
        t.live.get c = { s.live.get c with
          state := .holding u s.clock
            (s.clock + BitVec.ofNat 32 (s.policy.classes.row (effectiveClass f)).holdLimit) }) ∧
      (∀ f ∈ s.flows, f.slot ∉ (s.waitingClaims c).map (·.1) → f ∈ t.flows) ∧
      ∀ f ∈ s.flows, f.slot ∈ (s.waitingClaims c).map (·.1) →
        { f with
          streak := 0
          grants := min 65535 (f.grants + ((s.waitingClaims c).map (·.1)).count f.slot) } ∈ t.flows) ∧
  (∀ (s : State) (g : AirTime), s.arb.mode = .parking g → reached s.clock g = false →
    exec .guardEndParking s = .next s) ∧
  ∀ (s : State) (c : Client) (g : AirTime), s.arb.mode = .settling c g → reached s.clock g = false →
    exec .guardEndSettling s = .next s

/-- The hand-off's two tables: parking with nobody waiting, otherwise the air to the pick, at once only where the
switch stands at its position with no guard running (R94); the four arrivals in FREE and PARKING (R95); the park when
the holder's last claim is released and nobody waits (R98). -/
def Obligations.HandOffFollowsTheTables : Prop :=
  (∀ s : State, (∀ c, s.waitingClaims c = []) →
    s.handOff = { s with arb := s.handOff.arb, acct := s.handOff.acct } ∧
    (∀ g, s.arb.position = s.policy.defaultPos → s.arb.mode.guardEnd = some g →
      s.handOff.arb = ⟨.parking g, s.arb.position⟩) ∧
    (s.arb.position = s.policy.defaultPos → s.arb.mode.guardEnd = none →
      s.handOff.arb = ⟨.free, s.arb.position⟩) ∧
    (s.arb.position ≠ s.policy.defaultPos →
      s.handOff.arb = ⟨.parking (s.clock + BitVec.ofNat 32 s.policy.guardTime), s.policy.defaultPos⟩)) ∧
  (∀ (s : State) (c : Client) (w : Nat), s.pick (fun _ => true) = some (c, w) →
    (∀ g, s.arb.position = c → s.arb.mode.guardEnd = some g → s.handOff.arb = ⟨.settling c g, c⟩) ∧
    (s.arb.position = c → s.arb.mode.guardEnd = none →
      s.handOff.arb = ⟨.held c, c⟩ ∧ s.handOff.waitingClaims c = []) ∧
    (s.arb.position ≠ c →
      s.handOff.arb = ⟨.settling c (s.clock + BitVec.ofNat 32 s.policy.guardTime), c⟩)) ∧
  (∀ (s : State) (c : Client) (k : Nat), s.resetn = true → (s.live.get c).reqLevel = false →
    s.admitted c = true → (s.live.get c).binding = some k → (s.live.get c).state = .idle →
    (∀ d, s.waitingClaims d = []) → s.policy.guardTime ≠ 0 →
    ∃ t, exec (.reqRise c) s = .next t ∧
      (s.arb.mode = .free → s.arb.position = c → t.arb = ⟨.held c, c⟩ ∧ t.gnt c = true) ∧
      (s.arb.mode = .free → s.arb.position ≠ c →
        t.arb = ⟨.settling c (s.clock + BitVec.ofNat 32 s.policy.guardTime), c⟩) ∧
      (∀ g, s.arb.mode = .parking g → s.arb.position = c → t.arb = ⟨.settling c g, c⟩) ∧
      ∀ g, s.arb.mode = .parking g → s.arb.position ≠ c →
        t.arb = ⟨.settling c (s.clock + BitVec.ofNat 32 s.policy.guardTime), c⟩) ∧
  ∀ (s : State) (c : Client), s.resetn = true → (s.live.get c).reqLevel = true → s.arb.mode = .held c →
    s.liveHolding c ≠ none → s.heldSlots c = [] → (∀ d, s.waitingClaims d = []) →
    s.policy.guardTime ≠ 0 →
    ∃ t, exec (.reqFall c) s = .next t ∧ t.arb =
      if s.arb.position = s.policy.defaultPos then ⟨.free, s.arb.position⟩
      else ⟨.parking (s.clock + BitVec.ofNat 32 s.policy.guardTime), s.policy.defaultPos⟩

/-- The checks: when each is made, and what it does. In SETTLING and HELD an arrival for another client, a change of
policy or of a weight, and a claim that leaves make the displacement or the preemption check, or the hand-off where no
claim remains (R95, R98, R99, R103); a guard of length 0 that the answer started is passed in the same act (R91, log
entry 9), one it kept is not. A displacement
moves the switch and the next holder alone, and only for a challenger at least M heavier (R100). A preemption needs
that margin and no shield (R101); it lowers GNT, cuts every holding with its flow's Cuts and streak, advances each
HOLDING entry or, on its last count, retires it with ENDED (R72, R73), returns the live claim to WAITING with its
urgency bit, gives CUT, counts one preemption, and starts a guard toward the challenger; a
former holder that waits again brings a displacement check (R102, R124, R7, R53, R55), which for an M that its raised
streaks cannot reach leaves the guard with the challenger. Short of the margin, or shielded, nothing changes. -/
def Obligations.DisplacementAndPreemptionNeedTheMargin : Prop :=
  (∀ (s : State) (c n : Client) (g : AirTime), s.arb.mode = .settling n g → c ≠ n →
    s.claimArrived c = s.passZeroGuard s.displacementCheck) ∧
  (∀ (s : State) (c h : Client), s.arb.mode = .held h → c ≠ h →
    s.claimArrived c = s.passZeroGuard s.preemptionCheck) ∧
  (∀ s : State, (s.atRest → s.stateCheck = s) ∧
    (∀ n g, s.arb.mode = .settling n g → s.stateCheck = s.passZeroGuard s.displacementCheck) ∧
    ∀ h, s.arb.mode = .held h → s.stateCheck = s.passZeroGuard s.preemptionCheck) ∧
  (∀ (b s : State) (c : Client),
    (s.arb.mode = .held c → s.holdingClaims c ≠ [] →
      b.claimsLeft s c = s.passZeroGuard s.preemptionCheck) ∧
    (s.arb.mode = .held c → s.holdingClaims c = [] → b.claimsLeft s c = s.passZeroGuard s.handOff) ∧
    (∀ g, s.arb.mode = .settling c g → s.waitingClaims c = [] →
      b.claimsLeft s c = s.passZeroGuard s.handOff) ∧
    (∀ g, s.arb.mode = .settling c g → s.waitingClaims c ≠ [] →
      (s.waitingWeight c).getD 0 < (b.waitingWeight c).getD 0 →
      b.claimsLeft s c = s.passZeroGuard s.displacementCheck) ∧
    (∀ g, s.arb.mode = .settling c g → s.waitingClaims c ≠ [] →
      (b.waitingWeight c).getD 0 ≤ (s.waitingWeight c).getD 0 → b.claimsLeft s c = s) ∧
    (s.arb.mode.holder ≠ some c → s.arb.mode.next ≠ some c → b.claimsLeft s c = s)) ∧
  (∀ s t : State,
    (t.policy.guardTime ≠ 0 ∨
        t.arb.position = s.arb.position ∧ t.arb.mode.guardEnd = s.arb.mode.guardEnd →
      s.passZeroGuard t = t) ∧
    (t.policy.guardTime = 0 →
      (t.arb.position ≠ s.arb.position ∨ t.arb.mode.guardEnd ≠ s.arb.mode.guardEnd) →
      (∀ c g, t.arb.mode = .settling c g → reached t.clock g = true → s.passZeroGuard t = t.grant c) ∧
      ∀ g, t.arb.mode = .parking g → reached t.clock g = true → s.passZeroGuard t = t.setMode .free)) ∧
  (∀ (s : State) (n : Client) (g : AirTime), s.arb.mode = .settling n g → s.chargeFollows →
    (∀ d w, s.pick (fun c => c != n) = some (d, w) →
      (s.waitingWeight n).getD 0 + s.policy.margin ≤ w →
      s.displacementCheck = { s with
        arb := ⟨.settling d (s.clock + BitVec.ofNat 32 s.policy.guardTime), d⟩ }) ∧
    ((∀ d w, s.pick (fun c => c != n) = some (d, w) →
        w < (s.waitingWeight n).getD 0 + s.policy.margin) →
      s.displacementCheck = s)) ∧
  (∀ (s : State) (h : Client), s.arb.mode = .held h →
    (∀ d w, s.pick (fun c => c != h) = some (d, w) →
      w < (s.holdingWeight h).getD 0 + s.policy.margin ∨ s.shielded h = true) →
    s.preemptionCheck = s) ∧
  (∀ (s : State) (h : Client), s.shielded h = true ↔
    ∃ x ∈ s.holdingClaims h, ∃ f, s.flowAt x.1 = some f ∧
      (s.policy.classes.row (effectiveClass f)).preemptible = false) ∧
  ∀ (s : State) (h d : Client) (w : Nat), s.arb.mode = .held h →
    s.pick (fun c => c != h) = some (d, w) → (s.holdingWeight h).getD 0 + s.policy.margin ≤ w →
    s.shielded h = false →
    ∃ u t : State, t = s.preemptionCheck ∧
      u.arb = ⟨.settling d (s.clock + BitVec.ofNat 32 s.policy.guardTime), d⟩ ∧
      u = { s with
        arb := u.arb, acct := u.acct, plan := u.plan, flows := u.flows
        live := s.live.set h (u.live.get h), links := u.links } ∧
      (u.waitingClaims h = [] → t = u) ∧ (u.waitingClaims h ≠ [] → t = u.displacementCheck) ∧
      (s.flowTableOk → s.refsOk → s.policy.inRange → s.chargeFollows → s.penaltyFollows →
        s.waitingClaims h = [] →
        (∀ k, 3 * ((s.holdingClaims h).map (·.1)).count k < 2 * s.policy.margin) → t = u) ∧
      t.acct.preemptions = min 65535 (s.acct.preemptions + 1) ∧
      (∀ c, t.gnt c = false) ∧ t.holdingClaims h = [] ∧
      ((s.sup.get h).state ≠ .detached → (t.links.get h).notices.getLsbD 2 = true) ∧
      (∀ u a b, (s.live.get h).state = .holding u a b → t.live.get h = { s.live.get h with
        state := .waiting u (s.clock + BitVec.ofNat 32 s.policy.agingInterval) }) ∧
      t.plan = s.plan.filterMap (fun e =>
        if e.owner = h ∧ e.isHolding = true then
          if e.count = 1 then none
          else some { e with
            start := e.advancedStart s.clock, count := e.count - 1, pendingOffset := none
            status := if reached s.clock (e.advancedStart s.clock) then .due else .scheduled }
        else some e) ∧
      t.links = (if (s.sup.get h).state = .detached then s.links
        else s.links.set h { s.links.get h with
          notices := (s.links.get h).notices ||| 0x04 |||
            if s.plan.any (fun e => e.owner == h && e.isHolding && e.count == 1) then 0x02 else 0x00 }) ∧
      ∀ f ∈ s.flows, f.inRange → { f with
        streak := min 15 (f.streak + ((s.holdingClaims h).map (·.1)).count f.slot)
        cuts := min 65535 (f.cuts + ((s.holdingClaims h).map (·.1)).count f.slot) } ∈ t.flows

/-- The weight of a claim is 8 × B + A × D + 8 × u − 2 × P of its flow's effective class and its client, 0 where that
is below 0, and lies in 0..173; an occurrence has u = 0 (R87). -/
def Obligations.ClaimWeightFormula : Prop :=
  (∀ (s : State) (c : Client) (k : Nat) (u : Bool) (f : Flow), s.flowAt k = some f →
    (s.weightOf c (k, u) : Int) =
      max 0 (8 * ((s.policy.classes.row (effectiveClass f)).base : Int) +
        (s.policy.classes.row (effectiveClass f)).step * f.streak +
        8 * (if u = true ∧ (s.policy.classes.row (effectiveClass f)).urgent = true then 1 else 0) -
        2 * s.acct.penalty.get c)) ∧
  (∀ (s : State) (c : Client) (x : Nat × Bool), s.policy.inRange → (∀ f ∈ s.flows, f.inRange) →
    s.weightOf c x ≤ 173) ∧
  (∀ (s : State) (c : Client) (k : Nat), (k, true) ∈ s.waitingClaims c ↔
    (∃ d, (s.live.get c).state = .waiting true d) ∧ (s.live.get c).binding = some k) ∧
  (∀ (s : State) (c : Client) (k : Nat), (k, true) ∈ s.holdingClaims c ↔
    (∃ a d, (s.live.get c).state = .holding true a d) ∧ (s.live.get c).binding = some k) ∧
  ∃ (s : State) (c : Client) (x : Nat × Bool), s.policy.inRange ∧ (∀ f ∈ s.flows, f.inRange) ∧
    x ∈ s.waitingClaims c ∧ s.weightOf c x = 173

/-- The pick is the admitted client of largest waiting weight, of equals the one with the lower tie rank (R93), a
client's weight being the largest of its claims (R88), and its claims those of its live claim and of its DUE or
HOLDING entries (R84). -/
def Obligations.PickIsTheHeaviestClient : Prop :=
  (∀ (s : State) (ok : Client → Bool) (c : Client) (w : Nat),
    (∀ d e, (s.policy.clients.get d).rank = (s.policy.clients.get e).rank → d = e) →
    (s.pick ok = some (c, w) ↔ ok c = true ∧ s.waitingWeight c = some w ∧
      ∀ d v, d ≠ c → ok d = true → s.waitingWeight d = some v →
        v < w ∨ v = w ∧ (s.policy.clients.get c).rank < (s.policy.clients.get d).rank)) ∧
  (∀ (s : State) (ok : Client → Bool), s.pick ok = none ↔ ∀ c, ok c = true → s.waitingClaims c = []) ∧
  (∀ (s : State) (c : Client) (w : Nat), s.waitingWeight c = some w ↔
    (∃ x ∈ s.waitingClaims c, s.weightOf c x = w) ∧ ∀ x ∈ s.waitingClaims c, s.weightOf c x ≤ w) ∧
  (∀ (s : State) (c : Client) (w : Nat), s.holdingWeight c = some w ↔
    (∃ x ∈ s.holdingClaims c, s.weightOf c x = w) ∧ ∀ x ∈ s.holdingClaims c, s.weightOf c x ≤ w) ∧
  (∀ (s : State) (c : Client) (k : Nat) (u : Bool), (k, u) ∈ s.waitingClaims c ↔
    (∃ d, (s.live.get c).state = .waiting u d) ∧ (s.live.get c).binding = some k ∨
      u = false ∧ ∃ e ∈ s.plan, e.owner = c ∧ e.status = .due ∧ e.flow = k) ∧
  ∀ (s : State) (c : Client) (k : Nat) (u : Bool), (k, u) ∈ s.holdingClaims c ↔
    (∃ a d, (s.live.get c).state = .holding u a d) ∧ (s.live.get c).binding = some k ∨
      u = false ∧ ∃ e ∈ s.plan, e.owner = c ∧ (∃ g, e.status = .holding g) ∧ e.flow = k

/-! ## Air accountant -/

/-- A rollover makes the window's record of its length, its five accounts and its three event counts, clears counters
and penalties, starts a new window on the same account (R8, R9), advances the review count (R16) and steps the survey
(R18, R19). Where no waiting client is penalised nothing else changes; where one is, one check of the state so far
follows (R8, R103; log entry 17). The running sums are 0 after a completed survey (log entry 21). The new window starts
at the air time the row is taken at (log entry 16); before the window's end nothing happens (log entry 5): the model's
choices. -/
def Obligations.RolloverClosesTheWindow : Prop :=
  (∀ s : State, s.resetn = true →
    reached s.clock (s.acct.windowStart + BitVec.ofNat 32 ((s.policy.windowN + 1) * 250)) = true →
    ∃ t, exec .rollover s = .next t ∧ t.acct.windowStart = s.clock ∧
      t.acct.last =
        { length := (s.policy.windowN + 1) * 250
          held := ⟨s.usageNow .nr, s.usageNow .sr, s.usageNow .ar⟩
          guardTime := s.guardNow, idleTime := s.idleNow, preemptions := s.acct.preemptions
          misses := s.acct.misses, overstays := s.acct.overstays } ∧
      (∀ c, t.usageNow c = 0 ∧ t.acct.penalty.get c = 0) ∧ t.guardNow = 0 ∧ t.idleNow = 0 ∧
      t.acct.misses = 0 ∧ t.acct.overstays = 0 ∧ t.policy = s.policy ∧
      (s.acct.survey.state = .idle → t.acct.survey = s.acct.survey) ∧
      (s.acct.survey.state = .armed → t.acct.survey = { s.acct.survey with state := .running }) ∧
      (s.acct.survey.state = .running → s.acct.survey.summed + 1 < s.acct.survey.k →
        t.acct.survey = { s.acct.survey with
          summed := s.acct.survey.summed + 1, sums := s.acct.survey.sums.add t.acct.last }) ∧
      (s.acct.survey.state = .running → s.acct.survey.k ≤ s.acct.survey.summed + 1 →
        t.acct.survey =
          { state := .idle, k := s.acct.survey.k, summed := 0, sums := .zero
            resultWindows := s.acct.survey.k, resultLength := (s.policy.windowN + 1) * 250
            result := s.acct.survey.sums.add t.acct.last } ∧
        t.port.flags.getLsbD 7 = true) ∧
      ((∀ c, s.waitingClaims c ≠ [] → s.acct.penalty.get c = 0) →
        t = { s with acct := t.acct, port := t.port } ∧ t.acct.charged = s.acct.charged ∧
          t.acct.preemptions = 0) ∧
      t.port = { s.port with flags := s.port.flags |||
        (if s.policy.reviewR ≤ s.acct.reviewCount + 1 then 0x040 else 0x000) |||
        if s.acct.survey.state = .running ∧ s.acct.survey.k ≤ s.acct.survey.summed + 1 then 0x080 else 0x000 } ∧
      ((∃ c, s.waitingClaims c ≠ [] ∧ s.acct.penalty.get c ≠ 0) →
        t = State.stateCheck { s with
          acct := { s.acct with
            windowStart := s.clock, usage := ⟨0, 0, 0⟩, guardTime := 0, idleTime := 0, preemptions := 0
            misses := 0, overstays := 0, chargeStart := s.clock, penalty := ⟨0, 0, 0⟩, last := t.acct.last
            reviewCount := if s.policy.reviewR ≤ s.acct.reviewCount + 1 then 0 else s.acct.reviewCount + 1
            survey := t.acct.survey }
          port := t.port })) ∧
  ∀ s : State,
    reached s.clock (s.acct.windowStart + BitVec.ofNat 32 ((s.policy.windowN + 1) * 250)) = false →
    exec .rollover s = .next s

/-- The review count rises by 1 at each rollover; the rollover that brings it to R sets REVIEW and returns it to 0; it
lies in 0..R − 1; R is 1 and the count 0 at power-on; an arbitration restart keeps R and clears the count, a window
restart stores its R and clears the count (R16). -/
def Obligations.ReviewNoticeEveryRthRollover : Prop :=
  (∀ s t : State, s.resetn = true → reached s.clock s.windowEnd = true → exec .rollover s = .next t →
    (s.acct.reviewCount + 1 < s.policy.reviewR → t.acct.reviewCount = s.acct.reviewCount + 1 ∧
      t.port.flags.getLsbD 6 = s.port.flags.getLsbD 6) ∧
    (s.policy.reviewR ≤ s.acct.reviewCount + 1 → t.acct.reviewCount = 0 ∧
      t.port.flags.getLsbD 6 = true)) ∧
  (∀ s t : State, s.policy.inRange → s.acct.reviewCount < s.policy.reviewR →
    Sys2Proof.Machine.step s = .next t → t.acct.reviewCount < t.policy.reviewR) ∧
  (∀ (p : ResetPins) (s t : State), exec (.resetEnd p) s = .next t →
    t.policy.reviewR = 1 ∧ t.acct.reviewCount = 0) ∧
  (∀ s t : State, s.resetn = true → exec .restart s = .next t →
    t.policy.reviewR = s.policy.reviewR ∧ t.acct.reviewCount = 0) ∧
  ∀ (s t : State) (n r : Byte), s.resetn = true → exec (.setWindow n r) s = .next t →
    t.policy.reviewR = max 1 (min 16 r.toNat) ∧ t.acct.reviewCount = 0

/-- START SURVEY in IDLE stores K, clears the sums and the count and arms the survey, CLAMPED for K of 0; in ARMED or
RUNNING it is refused with BUSY and changes no state of any block (R17, R156). -/
def Obligations.StartSurveyArms : Prop :=
  (∀ (s : State) (k : Byte), s.resetn = true → s.acct.survey.state = .idle →
    exec (.startSurvey k) s = .next { s with
      acct := { s.acct with survey := { s.acct.survey with
        state := .armed, k := max 1 k.toNat, summed := 0, sums := .zero } }
      port := s.port.wrote (if k = 0 then .clamped else .ok) [] }) ∧
  ∀ (s : State) (k : Byte), s.resetn = true → s.acct.survey.state ≠ .idle →
    exec (.startSurvey k) s = .next { s with port := s.port.refused .busy }

/-- STOP SURVEY in ARMED or RUNNING returns the survey to IDLE with its sums and count discarded, its result kept and
no notice set; in IDLE it changes nothing; OK in every state. At one air time with the rollover that would complete
the survey, each order has the outcome of R20. -/
def Obligations.StopSurveyKeepsTheResult : Prop :=
  (∀ s : State, s.resetn = true → s.acct.survey.state ≠ .idle →
    exec .stopSurvey s = .next { s with
      acct := { s.acct with survey := { s.acct.survey with state := .idle, summed := 0, sums := .zero } }
      port := s.port.wrote .ok [] }) ∧
  (∀ s : State, s.resetn = true → s.acct.survey.state = .idle →
    exec .stopSurvey s = .next { s with port := s.port.wrote .ok [] }) ∧
  ∀ s : State, s.resetn = true → reached s.clock s.windowEnd = true → s.acct.survey.state = .running →
    s.acct.survey.k ≤ s.acct.survey.summed + 1 →
    (∃ t u, exec .rollover s = .next t ∧ t.acct.survey.state = .idle ∧
      t.acct.survey.result = s.acct.survey.sums.add t.acct.last ∧ t.port.flags.getLsbD 7 = true ∧
      exec .stopSurvey t = .next u ∧ u.acct.survey = t.acct.survey) ∧
    ∃ t u, exec .stopSurvey s = .next t ∧ t.acct.survey.state = .idle ∧
      t.acct.survey.result = s.acct.survey.result ∧ exec .rollover t = .next u ∧
      u.acct.survey = t.acct.survey ∧ u.port.flags.getLsbD 7 = s.port.flags.getLsbD 7

/-- The penalty: 0 up to the allowance, then 1 + floor((U − allowance) × 64 / W) up to 15 (R12); its thresholds are
those of R13; every penalty is 0 at power-on and whenever usage is cleared (R12, R14); between crossings each client's
penalty is the formula's value for its present usage (log entry 11). With no crossing due the row of a crossing
changes nothing: the model's choice, log entry 5. -/
def Obligations.PenaltyIsTheFormulaOfUsage : Prop :=
  (∀ w share u : Nat, penaltyOf w share u =
    if u ≤ share * w / 64 then 0 else min 15 (1 + (u - share * w / 64) * 64 / w)) ∧
  (∀ w share u : Nat, penaltyOf w share u ≤ 15) ∧ penaltyOf 20000 16 6900 = 7 ∧
  (∀ w u : Nat, 1 ≤ u → 1 ≤ penaltyOf w 0 u) ∧
  (∀ w share u k : Nat, 0 < w → k ≤ 14 →
    (k + 1 ≤ penaltyOf w share u ↔ share * w / 64 + max 1 ((k * w + 63) / 64) ≤ u)) ∧
  (∀ (s : State) (c : Client), s.chargeFollows → s.penaltyFollows → s.penaltyDue = false →
    s.acct.penalty.get c =
      penaltyOf ((s.policy.windowN + 1) * 250) (s.policy.clients.get c).share (s.usageNow c)) ∧
  (∀ (i : Instr) (s t : State),
    (s.resetn = true ∧ ((i = .rollover ∧ reached s.clock s.windowEnd = true) ∨ (∃ n r, i = .setWindow n r) ∨
      i = .restart)) ∨ (∃ p, i = .resetEnd p) →
    exec i s = .next t → ∀ c, t.acct.penalty.get c = 0) ∧
  (∀ (s : State) (c : Client), s.resetn = true → s.arb.mode = .held c →
    s.acct.penalty.get c < s.penaltyNow c →
    exec .penaltyCrossing s = .next
      (({ s with acct := { s.acct with penalty := s.acct.penalty.set c (s.penaltyNow c) } } :
        State).stateCheck)) ∧
  (∀ (s : State) (c : Client), s.resetn = true → s.arb.mode = .held c →
    s.acct.penalty.get c < s.penaltyNow c → (∀ d, d ≠ c → s.waitingClaims d = []) →
    exec .penaltyCrossing s = .next
      { s with acct := { s.acct with penalty := s.acct.penalty.set c (s.penaltyNow c) } }) ∧
  ∀ s : State, s.penaltyDue = false → exec .penaltyCrossing s = .next s

/-! ## Platform port -/

/-- SET CLASS replaces the five values of one row, each saturated, and no other setting (R86, R159); hold deadlines of
that class follow the new limit, and one that the lowered limit has already reached expires in the same act, which the
arbiter answers (R119, R120, R98); then comes the check of the arbiter's state (R103, R106); with no live claim of the
class holding nothing else changes, and at rest nothing else at all. A code above 5 is refused with RANGE. -/
def Obligations.SetClassReplacesOneRow : Prop :=
  (∀ (s : State) (b base step flags : Byte) (h : BitVec 16) (k : FlowClass), s.resetn = true →
    classOfCode b.toNat = some k →
    ∃ t, exec (.setClass b base step flags h) s = .next t ∧
      t.policy = { s.policy with classes := t.policy.classes } ∧
      t.policy.classes.row k =
        { base := min 15 base.toNat, step := min 3 step.toNat, urgent := flags.getLsbD 0
          preemptible := flags.getLsbD 1, holdLimit := max 100 (min 65000 h.toNat) } ∧
      (∀ j, j ≠ k → t.policy.classes.row j = s.policy.classes.row j) ∧
      (t.port.lastResult =
        if 15 < base.toNat ∨ 3 < step.toNat ∨ h.toNat < 100 ∨ 65000 < h.toNat then .clamped else .ok) ∧
      t.port.readout = [] ∧ t.port.flags.getLsbD 0 = false ∧
      (s.atRest → (∀ c, s.liveHolding c = none) →
        t = { s with policy := t.policy, port := s.port.wrote t.port.lastResult [] })) ∧
  (∀ (s : State) (b base step flags : Byte) (h : BitVec 16) (c : Client) (f : Flow) (u : Bool)
      (a d : AirTime), s.resetn = true → classOfCode b.toNat = some (effectiveClass f) →
    (s.live.get c).binding = some f.slot → s.flowAt f.slot = some f →
    (s.live.get c).state = .holding u a d → s.arb.mode = .held c →
    (∀ e, e ≠ c → s.waitingClaims e = [] ∧ s.liveHolding e = none) →
    reached s.clock (a + BitVec.ofNat 32 (max 100 (min 65000 h.toNat))) = false →
    ∃ t, exec (.setClass b base step flags h) s = .next t ∧
      t = { s with policy := t.policy, port := t.port, live := t.live } ∧
      t.live = s.live.set c { s.live.get c with
        state := .holding u a (a + BitVec.ofNat 32 (max 100 (min 65000 h.toNat))) }) ∧
  (∀ (s : State) (b base step flags : Byte) (h : BitVec 16) (c : Client) (f : Flow) (u : Bool)
      (a d : AirTime), s.resetn = true → classOfCode b.toNat = some (effectiveClass f) →
    (s.live.get c).binding = some f.slot → s.flowAt f.slot = some f →
    (s.live.get c).state = .holding u a d → s.arb.mode = .held c →
    (∀ e, e ≠ c → s.liveHolding e = none) →
    reached s.clock (a + BitVec.ofNat 32 (max 100 (min 65000 h.toNat))) = true →
    ∃ t, exec (.setClass b base step flags h) s = .next t ∧
      t.live.get c = { s.live.get c with state := .spent } ∧
      t.acct.overstays = min 65535 (s.acct.overstays + 1) ∧
      t.port.flags = (s.port.flags ||| 0x020) &&& 0x3FE ∧
      ((s.sup.get c).state ≠ .detached → (t.links.get c).notices.getLsbD 4 = true) ∧
      ∃ g ∈ t.flows, g.slot = f.slot ∧ g.overstays = min 65535 (f.overstays + 1)) ∧
  (∀ (s : State) (b base step flags : Byte) (h : BitVec 16) (k : FlowClass), s.resetn = true →
    classOfCode b.toNat = some k →
    (∀ c g, (s.live.get c).binding = some g.slot → s.flowAt g.slot = some g → effectiveClass g = k →
      s.liveHolding c = none) →
    ∃ t, exec (.setClass b base step flags h) s = .next t ∧
      t = { ({ s with policy := t.policy } : State).stateCheck with port := t.port }) ∧
  (∀ (s : State) (b base step flags : Byte) (h : BitVec 16) (c : Client) (f : Flow) (u : Bool)
      (a d l : AirTime), s.resetn = true → classOfCode b.toNat = some (effectiveClass f) →
    (s.live.get c).binding = some f.slot → s.flowAt f.slot = some f →
    (s.live.get c).state = .holding u a d → (∀ e, e ≠ c → s.liveHolding e = none) →
    l = a + BitVec.ofNat 32 (max 100 (min 65000 h.toNat)) →
    ∃ r t : State, exec (.setClass b base step flags h) s = .next t ∧
      r = { s with
        policy := t.policy, live := s.live.set c { s.live.get c with state := .holding u a l } } ∧
      (reached s.clock l = false → t = { r.stateCheck with port := t.port }) ∧
      (reached s.clock l = true →
        t = { (r.claimsLeft (r.overstayed c f.slot) c).stateCheck with port := t.port })) ∧
  ∀ (s : State) (b base step flags : Byte) (h : BitVec 16), s.resetn = true → 5 < b.toNat →
    exec (.setClass b base step flags h) s = .next { s with port := s.port.refused .range }

/-- SET CLIENT stores share, cap and presence window, each saturated, and swaps ranks with the client that held the
rank written (R160); a changed share recomputes the penalty (R14); a changed share or cap gives POLICY; the presence
deadline follows R37; the check of the arbiter's state follows (R103, R106), and at rest nothing else changes. An
index above 2 is refused with RANGE. -/
def Obligations.SetClientStoresThePolicy : Prop :=
  (∀ (s : State) (b share : Byte) (cap : BitVec 16) (p rank : Byte) (c : Client), s.resetn = true →
    clientOfIndex b.toNat = some c →
    ∃ t, exec (.setClient b share cap p rank) s = .next t ∧
      t.policy = { s.policy with clients := t.policy.clients } ∧
      t.policy.clients.get c =
        { share := min 64 share.toNat, cap := min 1024 cap.toNat, presence := p.toNat
          rank := min 2 rank.toNat } ∧
      (∀ d, d ≠ c → t.policy.clients.get d = { s.policy.clients.get d with
        rank := if (s.policy.clients.get d).rank = min 2 rank.toNat then (s.policy.clients.get c).rank
          else (s.policy.clients.get d).rank }) ∧
      (t.port = s.port.wrote
        (if 64 < share.toNat ∨ 1024 < cap.toNat ∨ 2 < rank.toNat then .clamped else .ok) []) ∧
      ((s.policy.clients.get c).share ≠ min 64 share.toNat ∨ (s.policy.clients.get c).cap ≠ min 1024 cap.toNat →
        (s.sup.get c).state ≠ .detached → (t.links.get c).notices.getLsbD 6 = true) ∧
      (s.atRest → (s.policy.clients.get c).share = min 64 share.toNat →
        (s.policy.clients.get c).cap = min 1024 cap.toNat →
        t = { s with policy := t.policy, port := t.port, sup := t.sup }) ∧
      (s.atRest → (s.policy.clients.get c).share ≠ min 64 share.toNat →
        t = { s with policy := t.policy, port := t.port, sup := t.sup, links := t.links, acct := t.acct } ∧
        t.acct = { s.acct with
          penalty := s.acct.penalty.set c
            (penaltyOf ((s.policy.windowN + 1) * 250) (min 64 share.toNat) (s.usageNow c)) }) ∧
      (t = { (State.stateCheck { (if (s.policy.clients.get c).share ≠ min 64 share.toNat ∨
            (s.policy.clients.get c).cap ≠ min 1024 cap.toNat then s.giveNotice c .policy else s) with
          policy := t.policy, sup := t.sup
          acct := { s.acct with
            penalty := if (s.policy.clients.get c).share = min 64 share.toNat then s.acct.penalty
              else s.acct.penalty.set c
                (penaltyOf ((s.policy.windowN + 1) * 250) (min 64 share.toNat) (s.usageNow c)) } }) with
        port := t.port }) ∧
      (∀ d, d ≠ c → t.sup.get d = s.sup.get d) ∧
      t.sup.get c = { s.sup.get c with
        deadline :=
          if s.admitted c = false then (s.sup.get c).deadline
          else if p = 0 then none
          else if (s.policy.clients.get c).presence = 0 then
            some (s.clock + BitVec.ofNat 32
              (if (s.sup.get c).state = .opening then 500000 else p.toNat * 10000))
          else (s.sup.get c).deadline }) ∧
  ∀ (s : State) (b share : Byte) (cap : BitVec 16) (p rank : Byte), s.resetn = true → 2 < b.toNat →
    exec (.setClient b share cap p rank) s = .next { s with port := s.port.refused .range }

/-- SET WINDOW stores N and R, saturated, and restarts the window: every account, event count and penalty 0 from now
on, no record made, the review count 0, a survey in progress voided with SURVEY-VOID and its result kept (R10, R21,
R161); the check of the arbiter's state follows (R103, R106), and at rest nothing else changes. -/
def Obligations.SetWindowRestartsTheWindow : Prop :=
  ∀ (s : State) (n r : Byte), s.resetn = true →
    ∃ t, exec (.setWindow n r) s = .next t ∧
      t.policy = { s.policy with
        windowN := max 3 (min 255 n.toNat), reviewR := max 1 (min 16 r.toNat) } ∧
      t.acct.windowStart = s.clock ∧ (∀ c, t.usageNow c = 0 ∧ t.acct.penalty.get c = 0) ∧
      t.guardNow = 0 ∧ t.idleNow = 0 ∧ t.acct.misses = 0 ∧ t.acct.overstays = 0 ∧
      t.acct.last = s.acct.last ∧ t.acct.reviewCount = 0 ∧ t.acct.survey.state = .idle ∧
      t.acct.survey.k = s.acct.survey.k ∧ t.acct.survey.result = s.acct.survey.result ∧
      t.acct.survey.resultWindows = s.acct.survey.resultWindows ∧
      t.acct.survey.resultLength = s.acct.survey.resultLength ∧
      (t.port = { (s.port.wrote (if n.toNat < 3 ∨ r.toNat < 1 ∨ 16 < r.toNat then .clamped else .ok) []) with
        flags := (s.port.flags ||| if s.acct.survey.state = .idle then 0 else 0x100) &&& 0x3FE }) ∧
      (s.atRest → t = { s with policy := t.policy, acct := t.acct, port := t.port } ∧
        t.acct.preemptions = 0 ∧ t.acct.charged = accountOf s.arb.mode) ∧
      t = { (State.stateCheck { s with
          policy := t.policy
          acct := { s.acct with
            windowStart := s.clock, usage := ⟨0, 0, 0⟩, guardTime := 0, idleTime := 0, preemptions := 0
            misses := 0, overstays := 0, charged := accountOf s.arb.mode, chargeStart := s.clock
            penalty := ⟨0, 0, 0⟩, reviewCount := 0
            survey := if s.acct.survey.state = .idle then s.acct.survey
              else { s.acct.survey with state := .idle, summed := 0, sums := .zero } } }) with
        port := t.port }

/-- SET ARBITER stores its five settings, saturated (R104, R161); a changed default position moves the switch with a
new guard in FREE and PARKING, a guard of length 0 being passed at once (R91, log entry 9), and nothing in SETTLING
and HELD (R105); a running guard keeps its deadline; a changed channel guard recomputes the masks and gives MASK to
each of SR and AR whose mask's content changed (R134, R135); the check of the arbiter's state follows (R103); with the
arbiter at rest, position and channel guard as they were, nothing else changes. -/
def Obligations.SetArbiterStoresTheSettings : Prop :=
  ∀ (s : State) (g m a b x : Byte) (p : Client), s.resetn = true →
    clientOfIndex (min 2 b.toNat) = some p →
    ∃ t, exec (.setArbiter g m a b x) s = .next t ∧
      t.policy = { s.policy with
        guardTime := min 63 g.toNat, margin := max 1 (min 63 m.toNat)
        agingInterval := max 1 (min 50 a.toNat) * 100, defaultPos := p
        channelGuard := min 15 x.toNat } ∧
      (t.port = s.port.wrote
        (if 63 < g.toNat ∨ m.toNat < 1 ∨ 63 < m.toNat ∨ a.toNat < 1 ∨ 50 < a.toNat ∨ 2 < b.toNat ∨
          15 < x.toNat then .clamped else .ok) []) ∧
      (t.channel = if s.policy.channelGuard = min 15 x.toNat then s.channel
        else computeChannel s.channel.note (min 15 x.toNat)) ∧
      (s.atRest → (p = s.policy.defaultPos ∨ p = s.arb.position) → t.arb = s.arb) ∧
      (s.atRest → p ≠ s.policy.defaultPos → p ≠ s.arb.position → g ≠ 0 →
        t.arb = ⟨.parking (s.clock + BitVec.ofNat 32 (min 63 g.toNat)), p⟩) ∧
      (s.atRest → p ≠ s.policy.defaultPos → p ≠ s.arb.position → g = 0 → t.arb = ⟨.free, p⟩) ∧
      (∀ n e, s.arb.mode = .settling n e → (∀ c, c ≠ n → s.waitingClaims c = []) → t.arb = s.arb) ∧
      (∀ h, s.arb.mode = .held h → (∀ c, c ≠ h → s.waitingClaims c = []) → t.arb = s.arb) ∧
      ((t.links.get .sr).notices.getLsbD 0 = ((s.links.get .sr).notices.getLsbD 0 ||
        decide (t.channel.srAvoided ≠ s.channel.srAvoided ∧ (s.sup.get .sr).state ≠ .detached))) ∧
      ((t.links.get .ar).notices.getLsbD 0 = ((s.links.get .ar).notices.getLsbD 0 ||
        decide (t.channel.arAvoided ≠ s.channel.arAvoided ∧ (s.sup.get .ar).state ≠ .detached))) ∧
      (¬ s.atRest → s.policy.channelGuard = min 15 x.toNat →
        t = { ({ s with policy := t.policy } : State).stateCheck with port := t.port }) ∧
      (s.atRest → p = s.policy.defaultPos → s.policy.channelGuard = min 15 x.toNat →
        t = { s with policy := t.policy, port := t.port })

/-- RESTART: every client DETACHED, flow table and plan empty, live claims IDLE and unbound, channel note "not in
band", links as R154 gives, a fresh window with the review count 0 and the survey IDLE with its result kept, the
arbiter parked by R108's table, which with a guard of length 0 is FREE at once (R91, log entry 9); the policy, the
freezes, the recorded line levels, the last record and the platform's mask and flags but RESET are kept (R23, R41,
R57, R83, R108, R126, R128, R154, R163). -/
def Obligations.RestartClearsTheBlocks : Prop :=
  ∀ s : State, s.resetn = true →
    ∃ t, exec .restart s = .next t ∧ t.flows = [] ∧ t.plan = [] ∧ t.channel = ⟨none, [], [], 0, 0⟩ ∧
      t.policy = s.policy ∧ t.port = s.port.wrote .ok [] ∧
      (∀ c, t.sup.get c = { s.sup.get c with state := .detached, deadline := none } ∧
        t.live.get c = { s.live.get c with state := .idle, binding := none } ∧
        (t.links.get c).reply = .empty ∧ (t.links.get c).announce = true ∧
        (t.links.get c).draft = ⟨4, 0, 1000, 0, 1, 0⟩ ∧ (t.links.get c).notices = 0 ∧
        (t.links.get c).errors = 0 ∧ t.usageNow c = 0 ∧ t.acct.penalty.get c = 0 ∧ t.gnt c = false ∧
        (∀ d w a g, (s.links.get c).receive = .inFrame d w a g →
          (t.links.get c).receive = .inFrame d w a true) ∧
        ((∀ d w a g, (s.links.get c).receive ≠ .inFrame d w a g) →
          (t.links.get c).receive = (s.links.get c).receive)) ∧
      t.acct.windowStart = s.clock ∧ t.guardNow = 0 ∧ t.idleNow = 0 ∧ t.acct.preemptions = 0 ∧
      t.acct.misses = 0 ∧ t.acct.overstays = 0 ∧ t.acct.last = s.acct.last ∧ t.acct.reviewCount = 0 ∧
      t.acct.survey = { s.acct.survey with state := .idle, summed := 0, sums := .zero } ∧
      (s.arb.position ≠ s.policy.defaultPos → s.policy.guardTime ≠ 0 →
        t.arb = ⟨.parking (s.clock + BitVec.ofNat 32 s.policy.guardTime), s.policy.defaultPos⟩ ∧
          t.acct.charged = .guardTime) ∧
      (s.arb.position ≠ s.policy.defaultPos → s.policy.guardTime = 0 →
        t.arb = ⟨.free, s.policy.defaultPos⟩ ∧ t.acct.charged = .idleTime) ∧
      (∀ g, s.arb.position = s.policy.defaultPos → s.arb.mode.guardEnd = some g →
        t.arb = ⟨.parking g, s.arb.position⟩ ∧ t.acct.charged = .guardTime) ∧
      (s.arb.position = s.policy.defaultPos → s.arb.mode.guardEnd = none →
        t.arb = ⟨.free, s.arb.position⟩ ∧ t.acct.charged = .idleTime)

/-- ATTN is low exactly while RESETN is high and an enabled flag is set; SET ATTN MASK stores the mask; the mask
enables RESET and the three SILENT notices at power-on, and no other row changes it (R166); RESET falls only with an
executed write (R165). READ NOTICES reads the flags and the mask as they stand and clears no flag but RESET (R165,
R167); CLEAR NOTICES reads the snapshot and clears the flags set in it and in the mask, and RESET with its OK (R168). -/
def Obligations.AttnFollowsTheEnabledFlags : Prop :=
  (∀ s : State, s.attnLow = true ↔
    s.resetn = true ∧ ∃ i, i < 10 ∧ s.port.flags.getLsbD i = true ∧ s.port.attnMask.getLsbD i = true) ∧
  (∀ (s : State) (w : BitVec 16), s.resetn = true →
    exec (.setAttnMask w) s = .next { s with
      port := { (s.port.wrote .ok []) with attnMask := w.extractLsb' 0 10 } }) ∧
  (∀ (p : ResetPins) (s t : State), exec (.resetEnd p) s = .next t →
    (∀ i, t.port.attnMask.getLsbD i = decide (i < 4)) ∧ t.attnLow = true) ∧
  (∀ (i : Instr) (s t : State), t.resetn = true → (∀ w, i ≠ .setAttnMask w) → (∀ p, i ≠ .resetEnd p) →
    exec i s = .next t → t.port.attnMask = s.port.attnMask) ∧
  (∀ s t : State, exec .resetnLow s = .next t → t.attnLow = false) ∧
  (∀ (i : Instr) (s t : State), exec i s = .next t → t.resetn = true →
    s.port.flags.getLsbD 0 = true → t.port.flags.getLsbD 0 = false →
    (encodeWrite i).isSome = true ∧ (t.port.lastResult = .ok ∨ t.port.lastResult = .clamped)) ∧
  (∀ s : State, s.resetn = true →
    exec .readNotices s = .next { s with
      port := s.port.wrote .ok
        [(s.port.flags.setWidth 16).extractLsb' 8 8, (s.port.flags.setWidth 16).extractLsb' 0 8,
          (s.port.attnMask.setWidth 16).extractLsb' 8 8, (s.port.attnMask.setWidth 16).extractLsb' 0 8] }) ∧
  ∀ (s : State) (w : BitVec 16), s.resetn = true →
    exec (.clearNotices w) s = .next { s with port :=
      { (s.port.wrote .ok
          [(s.port.flags.setWidth 16).extractLsb' 8 8, (s.port.flags.setWidth 16).extractLsb' 0 8]) with
        flags := (s.port.flags &&& ~~~(w.extractLsb' 0 10)) &&& 0x3FE } }

/-- Each READ leaves its readout with OK and changes nothing but the port; an index that names nothing, an unknown
command byte, a wrong length and an end within a byte (within the first: log entry 8) are refused with an empty
readout; an empty write changes nothing (R156, R164); every byte of every readout stands where R164 puts it, and a
read transaction returns the result byte, the readout and then zeros (R158). -/
def Obligations.ReadsLeaveTheirReadouts : Prop :=
  (∀ (s : State) (b : Byte) (c : Client), s.resetn = true → clientOfIndex b.toNat = some c →
    exec (.readClient b) s = .next { s with port := s.port.wrote .ok (s.clientReadout c) } ∧
      exec (.readAccount b) s = .next { s with port := s.port.wrote .ok (s.accountReadout c) }) ∧
  (∀ (s : State) (b : Byte) (f : Flow), s.resetn = true → s.flowAt b.toNat = some f →
    exec (.readFlow b) s = .next { s with port := s.port.wrote .ok (s.flowReadout f) }) ∧
  (∀ (s : State) (b : Byte) (e : Entry), s.resetn = true → s.entryAt b.toNat = some e →
    exec (.readEntry b) s = .next { s with port := s.port.wrote .ok (entryReadout e) }) ∧
  (∀ s : State, s.resetn = true →
    exec .readPlanOrder s = .next { s with port := s.port.wrote .ok s.orderReadout } ∧
      exec .readAir s = .next { s with port := s.port.wrote .ok s.airReadout } ∧
      exec .readChannel s = .next { s with port := s.port.wrote .ok s.channelReadout } ∧
      exec .readSurvey s = .next { s with port := s.port.wrote .ok s.surveyReadout } ∧
      exec .emptyWrite s = .next s) ∧
  (∀ (s : State) (b : Byte), s.resetn = true →
    (2 < b.toNat → exec (.readClient b) s = .next { s with port := s.port.refused .range } ∧
      exec (.readAccount b) s = .next { s with port := s.port.refused .range }) ∧
    (s.flowAt b.toNat = none → exec (.readFlow b) s = .next { s with port := s.port.refused .range }) ∧
    (s.entryAt b.toNat = none → exec (.readEntry b) s = .next { s with port := s.port.refused .range })) ∧
  (∀ (s : State) (b : Byte) (n : Nat) (m : Bool), s.resetn = true →
    exec (.discardedWrite (.unknown b)) s = .next { s with port := s.port.refused .unknown } ∧
      exec (.discardedWrite (.length b n m)) s = .next { s with port := s.port.refused .length } ∧
      exec (.discardedWrite .noCommand) s = .next { s with port := s.port.refused .length } ∧
      decodeWrite [] m = if m then .discardedWrite .noCommand else .emptyWrite) ∧
  (∀ (s : State) (c : Client), s.clientReadout c =
    [BitVec.ofNat 8 (clientStateCode (s.sup.get c).state), BitVec.ofNat 8 (liveStateCode (s.live.get c).state),
      BitVec.ofNat 8 (s.flowCount c), BitVec.ofNat 8 (s.entryCount c),
      BitVec.ofNat 8 (s.policy.clients.get c).share, BitVec.ofNat 8 ((s.policy.clients.get c).cap / 256),
      BitVec.ofNat 8 (s.policy.clients.get c).cap, BitVec.ofNat 8 (s.policy.clients.get c).presence,
      BitVec.ofNat 8 (s.policy.clients.get c).rank, if (s.sup.get c).frozen then 1 else 0,
      BitVec.ofNat 8 (s.links.get c).errors,
      match (s.live.get c).binding with
      | none => 0xFF
      | some k => BitVec.ofNat 8 k]) ∧
  (∀ (s : State) (c : Client), s.accountReadout c =
    [BitVec.ofNat 8 (s.usageNow c / 256), BitVec.ofNat 8 (s.usageNow c),
      BitVec.ofNat 8 (s.acct.last.held.get c / 256), BitVec.ofNat 8 (s.acct.last.held.get c),
      BitVec.ofNat 8 ((s.policy.clients.get c).share * ((s.policy.windowN + 1) * 250) / 64 / 256),
      BitVec.ofNat 8 ((s.policy.clients.get c).share * ((s.policy.windowN + 1) * 250) / 64),
      BitVec.ofNat 8 (s.acct.penalty.get c),
      BitVec.ofNat 8 (((s.plan.filter fun e => e.owner == c).map (·.load)).sum / 256),
      BitVec.ofNat 8 ((s.plan.filter fun e => e.owner == c).map (·.load)).sum]) ∧
  (∀ (s : State) (f : Flow), s.flowReadout f =
    [BitVec.ofNat 8 (clientIndex f.owner), BitVec.ofNat 8 f.handle, BitVec.ofNat 8 (classCode f.requested),
      (match f.pinned with
        | none => 0xFF
        | some k => BitVec.ofNat 8 (classCode k)),
      BitVec.ofNat 8 (classCode (f.pinned.getD f.requested)), BitVec.ofNat 8 f.streak,
      if (s.live.get f.owner).binding = some f.slot then 1 else 0,
      BitVec.ofNat 8 (s.plan.countP fun e => e.flow == f.slot),
      BitVec.ofNat 8 (f.grants / 256), BitVec.ofNat 8 f.grants,
      BitVec.ofNat 8 (f.served / 256), BitVec.ofNat 8 f.served,
      BitVec.ofNat 8 (f.missed / 256), BitVec.ofNat 8 f.missed,
      BitVec.ofNat 8 (f.cuts / 256), BitVec.ofNat 8 f.cuts,
      BitVec.ofNat 8 (f.overstays / 256), BitVec.ofNat 8 f.overstays]) ∧
  (∀ e : Entry, ∃ (state : Byte) (present : Byte) (grant : AirTime) (offset : BitVec 16),
    (state, present, grant) = (match e.status with
      | .scheduled => (0, 0, 0)
      | .due => (1, 0, 0)
      | .holding g => (2, 1, g)
      | .suspended _ => (3, 0, 0)) ∧
    offset = (match e.pendingOffset with
      | none => 0
      | some o => o.signExtend 16) ∧
    entryReadout e =
      [BitVec.ofNat 8 (clientIndex e.owner), BitVec.ofNat 8 e.flow, state,
        e.start.extractLsb' 16 8, e.start.extractLsb' 8 8, e.start.extractLsb' 0 8,
        BitVec.ofNat 8 (e.duration / 256), BitVec.ofNat 8 e.duration,
        BitVec.ofNat 8 (e.period / 65536), BitVec.ofNat 8 (e.period / 256), BitVec.ofNat 8 e.period,
        BitVec.ofNat 8 (e.count / 256), BitVec.ofNat 8 e.count,
        BitVec.ofNat 8 (e.slide / 65536), BitVec.ofNat 8 (e.slide / 256), BitVec.ofNat 8 e.slide,
        BitVec.ofNat 8 (e.load / 256), BitVec.ofNat 8 e.load,
        present ||| (if e.pendingOffset.isSome then 2 else 0),
        grant.extractLsb' 16 8, grant.extractLsb' 8 8, grant.extractLsb' 0 8,
        offset.extractLsb' 8 8, offset.extractLsb' 0 8]) ∧
  (∀ s : State, ∃ (mode holder next guard wn ws wa : Byte),
    s.airReadout = [mode, holder, next, BitVec.ofNat 8 (clientIndex s.arb.position), guard, wn, ws, wa] ∧
    (mode, holder, next) = (match s.arb.mode with
      | .free => (0, 0xFF, 0xFF)
      | .parking _ => (1, 0xFF, 0xFF)
      | .settling c _ => (2, 0xFF, BitVec.ofNat 8 (clientIndex c))
      | .held c => (3, BitVec.ofNat 8 (clientIndex c), 0xFF)) ∧
    (∀ g, s.arb.mode.guardEnd = some g →
      guard = if reached s.clock g then 0 else BitVec.ofNat 8 (g - s.clock).toNat) ∧
    (s.arb.mode.guardEnd = none → guard = 0) ∧
    ∀ x ∈ [(Client.nr, wn), (Client.sr, ws), (Client.ar, wa)],
      x.2 = BitVec.ofNat 8
        (((if s.arb.mode = .held x.1 then s.holdingWeight x.1 else s.waitingWeight x.1)).getD 255)) ∧
  (∀ s : State, s.channelReadout.length = 19 ∧
    (s.channel.note = none → s.channelReadout.take 2 = [0, 0]) ∧
    (∀ n, s.channel.note = some n → s.channelReadout.take 2 =
      [BitVec.ofNat 8 (n.centre - 2400), if n.width = .w40 then 1 else 0]) ∧
    s.channelReadout[2]? = some (BitVec.ofNat 8 s.policy.channelGuard) ∧
    (∀ k, k < 79 → (s.channelReadout[3 + k / 8]?).map (fun b => b.getLsbD (k % 8)) =
      some (decide (k ∈ s.channel.srAvoided))) ∧
    (s.masksFollow → (s.channelReadout[12]?).map (fun b => b.getLsbD 7) = some false) ∧
    (∀ k, k < 16 → (s.channelReadout[13 + k / 8]?).map (fun b => b.getLsbD (k % 8)) =
      some (decide (k ∈ s.channel.arAvoided))) ∧
    s.channelReadout.drop 15 =
      [BitVec.ofNat 8 (79 - s.channel.srAvoided.length), BitVec.ofNat 8 s.channel.srRestored,
        BitVec.ofNat 8 (16 - s.channel.arAvoided.length), BitVec.ofNat 8 s.channel.arRestored]) ∧
  (∀ (s : State) (v : Survey), v = s.acct.survey → s.surveyReadout =
    [match v.state with
      | .idle => 0
      | .armed => 1
      | .running => 2,
      BitVec.ofNat 8 v.k, BitVec.ofNat 8 v.summed, BitVec.ofNat 8 v.resultWindows,
      BitVec.ofNat 8 (v.resultLength / 256), BitVec.ofNat 8 v.resultLength] ++
    [v.result.held.nr, v.result.held.sr, v.result.held.ar, v.result.guardTime, v.result.idleTime].flatMap
      (fun n => [BitVec.ofNat 8 (n / 65536), BitVec.ofNat 8 (n / 256), BitVec.ofNat 8 n]) ++
    [v.result.preemptions, v.result.misses, v.result.overstays].flatMap
      (fun n => [BitVec.ofNat 8 (n / 256), BitVec.ofNat 8 n])) ∧
  (∀ s : State, s.orderReadout =
    BitVec.ofNat 8 s.plan.length :: s.planOrder.map fun e => BitVec.ofNat 8 e.number) ∧
  (∀ c : ClientState, clientStateCode c = match c with
    | .detached => 0
    | .opening => 1
    | .active => 2
    | .silent => 3) ∧
  (∀ x : LiveState, liveStateCode x = match x with
    | .idle => 0
    | .waiting _ _ => 1
    | .holding _ _ _ => 2
    | .spent => 3) ∧
  (∀ s : State, s.plan.length ≤ 32 → ∃ n rest, s.orderReadout = n :: rest ∧ n.toNat = s.plan.length ∧
    rest.length = s.plan.length) ∧
  ∀ (s : State) (n : Nat), (s.readBytes n).length = n ∧
    ∀ i, i < n → (s.readBytes n)[i]? =
      some (((portResultByte s.port.lastResult :: s.port.readout)[i]?).getD 0)

/-- The occurrence order holds every entry of the plan once, each before every later one: expired one-shots first by
number, then by start measured from now, base priority and number (R80). -/
def Obligations.OccurrenceOrderIsSorted : Prop :=
  ∀ s : State, s.planOrder.Perm s.plan ∧
    (s.plan.Pairwise (fun x y => x.number < y.number) →
      s.planOrder.Pairwise (fun a b => s.before a b = true)) ∧
    ∀ a b, s.before a b = true ↔
      (a.status = .suspended true ∧ (b.status = .suspended true → a.number < b.number)) ∨
      (a.status ≠ .suspended true ∧ b.status ≠ .suspended true ∧
        ((a.start - s.clock).toInt < (b.start - s.clock).toInt ∨
          a.start = b.start ∧ (s.baseOf b.flow < s.baseOf a.flow ∨
            s.baseOf a.flow = s.baseOf b.flow ∧ a.number < b.number)))

/-! ## What every step keeps -/

/-- Every step keeps the accounts: each microsecond of the window is charged once (R6), to the account the arbiter's
state calls for (R5), and the penalties follow the usage (R12, R13). -/
def Obligations.EveryStepKeepsTheAccounts : Prop :=
  ∀ s t : State, s.conserves → s.chargeFollows → s.penaltyFollows → Sys2Proof.Machine.step s = .next t →
    t.conserves ∧ t.chargeFollows ∧ t.penaltyFollows

/-- Every step keeps the flow table and the plan in their forms and the references between them (R42, R43, R58, R59,
R60, R63). -/
def Obligations.EveryStepKeepsTheTables : Prop :=
  ∀ s t : State, s.flowTableOk → s.planOk → s.refsOk → Sys2Proof.Machine.step s = .next t →
    t.flowTableOk ∧ t.planOk ∧ t.refsOk

/-- Every step keeps the claim board as the arbiter's state has it: a client's claims are all waiting or all holding,
nobody waits in FREE and PARKING, the next holder waits, the holder holds (R84, R85). -/
def Obligations.EveryStepKeepsTheBoard : Prop :=
  ∀ s t : State, s.flowTableOk → s.planOk → s.refsOk → s.boardFollows →
    Sys2Proof.Machine.step s = .next t → t.boardFollows

/-- Every step keeps what a client state promises: a DETACHED client owns nothing, and only an OPENING or ACTIVE
client has a claim, a live entry or the air (R24, R32, R33, R36, R40). The plan is in its form, no two entries of one
number (R58), which EveryStepKeepsTheTables keeps. -/
def Obligations.EveryStepKeepsWhatClientsOwn : Prop :=
  ∀ s t : State, s.planOk → s.detachedOwnsNothing → s.airOnlyToPresent → Sys2Proof.Machine.step s = .next t →
    t.detachedOwnsNothing ∧ t.airOnlyToPresent

/-- Every step keeps every setting of the policy store in its range with the tie ranks a permutation (R86, R93, R160,
R161), the switch where the arbiter's state puts it (R89), and the masks those of the note and channel guard held
(R134). -/
def Obligations.EveryStepKeepsPolicySwitchAndMasks : Prop :=
  (∀ s t : State, s.policy.inRange → Sys2Proof.Machine.step s = .next t → t.policy.inRange) ∧
  (∀ s t : State, s.switchFollows → Sys2Proof.Machine.step s = .next t → t.switchFollows) ∧
  ∀ s t : State, s.masksFollow → Sys2Proof.Machine.step s = .next t → t.masksFollow

/-- The switch moves only to a position where every GNT is low after the move, at most one GNT is ever high, and a GNT
rises only with the switch already at its client's position and no guard left running there (R90, R91, R92). With a
guard time of 0 a move and a grant may fall in one moment (R91), so the statement is for a guard time above 0. -/
def Obligations.SwitchMovesOnlyWithGntLow : Prop :=
  (∀ (i : Instr) (s t : State), exec i s = .next t → t.policy.guardTime ≠ 0 →
    t.arb.position ≠ s.arb.position → ∀ c, t.gnt c = false) ∧
  (∀ (i : Instr) (s t : State) (c : Client), exec i s = .next t → s.switchFollows →
    t.policy.guardTime ≠ 0 → s.gnt c = false → t.gnt c = true →
    s.arb.position = c ∧ t.arb.position = c ∧
      ∀ g, s.arb.mode.guardEnd = some g → reached s.clock g = true) ∧
  ∀ (s : State) (c d : Client), s.gnt c = true → s.gnt d = true → c = d

/-- The state at the end of reset meets every invariant, whatever levels the pins have there and whatever waits in the
queue; State.reset is the one with quiet pins, which is the model's choice: log entry 1. -/
def Obligations.EveryInvariantHoldsAtReset : Prop :=
  (∀ (pins : ResetPins) (k : Nat) (q : List Instr) (s : State), s = State.powerOn pins k q →
    s.conserves ∧ s.chargeFollows ∧ s.penaltyFollows ∧ s.switchFollows ∧ s.policy.inRange ∧ s.flowTableOk ∧
      s.planOk ∧ s.refsOk ∧ s.boardFollows ∧ s.detachedOwnsNothing ∧ s.airOnlyToPresent ∧ s.masksFollow ∧
      s.acct.reviewCount < s.policy.reviewR) ∧
  State.reset.conserves ∧ State.reset.chargeFollows ∧ State.reset.penaltyFollows ∧
    State.reset.switchFollows ∧ State.reset.policy.inRange ∧ State.reset.flowTableOk ∧
    State.reset.planOk ∧ State.reset.refsOk ∧ State.reset.boardFollows ∧
    State.reset.detachedOwnsNothing ∧ State.reset.airOnlyToPresent ∧ State.reset.masksFollow ∧
    State.reset.acct.reviewCount < State.reset.policy.reviewR
end

