-- ==== Sys2Proof/Laws/State.lean ====
section
/-!
SUPPORT. What each update of the state leaves unchanged, one lemma per field, so that no proof unfolds a record update.
-/

namespace Sys2Proof.Machine

/-! ## One value for each client -/

@[simp] theorem PerClient.get_set_same {α : Type} (p : PerClient α) (c : Client) (x : α) :
    (p.set c x).get c = x := by cases c <;> rfl

@[simp] theorem PerClient.get_set_other {α : Type} (p : PerClient α) (c d : Client) (x : α) (h : d ≠ c) :
    (p.set c x).get d = p.get d := by cases c <;> cases d <;> first | rfl | exact absurd rfl h

@[simp] theorem PerClient.set_set {α : Type} (p : PerClient α) (c : Client) (x y : α) :
    (p.set c x).set c y = p.set c y := by cases c <;> rfl

@[simp] theorem PerClient.set_get {α : Type} (p : PerClient α) (c : Client) : p.set c (p.get c) = p := by
  cases c <;> rfl

@[simp] theorem PerClient.get_all {α : Type} (x : α) (c : Client) : (PerClient.all x).get c = x := by
  cases c <;> rfl

/-! ## onLink -/

@[simp] theorem State.onLink_resetn (s : State) (c : Client) (f : Link → Link) :
    (s.onLink c f).resetn = s.resetn := rfl

@[simp] theorem State.onLink_clock (s : State) (c : Client) (f : Link → Link) :
    (s.onLink c f).clock = s.clock := rfl

@[simp] theorem State.onLink_policy (s : State) (c : Client) (f : Link → Link) :
    (s.onLink c f).policy = s.policy := rfl

@[simp] theorem State.onLink_acct (s : State) (c : Client) (f : Link → Link) :
    (s.onLink c f).acct = s.acct := rfl

@[simp] theorem State.onLink_sup (s : State) (c : Client) (f : Link → Link) :
    (s.onLink c f).sup = s.sup := rfl

@[simp] theorem State.onLink_flows (s : State) (c : Client) (f : Link → Link) :
    (s.onLink c f).flows = s.flows := rfl

@[simp] theorem State.onLink_plan (s : State) (c : Client) (f : Link → Link) :
    (s.onLink c f).plan = s.plan := rfl

@[simp] theorem State.onLink_arb (s : State) (c : Client) (f : Link → Link) :
    (s.onLink c f).arb = s.arb := rfl

@[simp] theorem State.onLink_live (s : State) (c : Client) (f : Link → Link) :
    (s.onLink c f).live = s.live := rfl

@[simp] theorem State.onLink_channel (s : State) (c : Client) (f : Link → Link) :
    (s.onLink c f).channel = s.channel := rfl

@[simp] theorem State.onLink_port (s : State) (c : Client) (f : Link → Link) :
    (s.onLink c f).port = s.port := rfl

@[simp] theorem State.onLink_freeIndex (s : State) (c : Client) (f : Link → Link) :
    (s.onLink c f).freeIndex = s.freeIndex := rfl

@[simp] theorem State.onLink_pending (s : State) (c : Client) (f : Link → Link) :
    (s.onLink c f).pending = s.pending := rfl

/-! ## onSup -/

@[simp] theorem State.onSup_resetn (s : State) (c : Client) (f : Supervision → Supervision) :
    (s.onSup c f).resetn = s.resetn := rfl

@[simp] theorem State.onSup_clock (s : State) (c : Client) (f : Supervision → Supervision) :
    (s.onSup c f).clock = s.clock := rfl

@[simp] theorem State.onSup_policy (s : State) (c : Client) (f : Supervision → Supervision) :
    (s.onSup c f).policy = s.policy := rfl

@[simp] theorem State.onSup_acct (s : State) (c : Client) (f : Supervision → Supervision) :
    (s.onSup c f).acct = s.acct := rfl

@[simp] theorem State.onSup_flows (s : State) (c : Client) (f : Supervision → Supervision) :
    (s.onSup c f).flows = s.flows := rfl

@[simp] theorem State.onSup_plan (s : State) (c : Client) (f : Supervision → Supervision) :
    (s.onSup c f).plan = s.plan := rfl

@[simp] theorem State.onSup_arb (s : State) (c : Client) (f : Supervision → Supervision) :
    (s.onSup c f).arb = s.arb := rfl

@[simp] theorem State.onSup_live (s : State) (c : Client) (f : Supervision → Supervision) :
    (s.onSup c f).live = s.live := rfl

@[simp] theorem State.onSup_channel (s : State) (c : Client) (f : Supervision → Supervision) :
    (s.onSup c f).channel = s.channel := rfl

@[simp] theorem State.onSup_links (s : State) (c : Client) (f : Supervision → Supervision) :
    (s.onSup c f).links = s.links := rfl

@[simp] theorem State.onSup_port (s : State) (c : Client) (f : Supervision → Supervision) :
    (s.onSup c f).port = s.port := rfl

@[simp] theorem State.onSup_freeIndex (s : State) (c : Client) (f : Supervision → Supervision) :
    (s.onSup c f).freeIndex = s.freeIndex := rfl

@[simp] theorem State.onSup_pending (s : State) (c : Client) (f : Supervision → Supervision) :
    (s.onSup c f).pending = s.pending := rfl

/-! ## onLive -/

@[simp] theorem State.onLive_resetn (s : State) (c : Client) (f : LiveClaim → LiveClaim) :
    (s.onLive c f).resetn = s.resetn := rfl

@[simp] theorem State.onLive_clock (s : State) (c : Client) (f : LiveClaim → LiveClaim) :
    (s.onLive c f).clock = s.clock := rfl

@[simp] theorem State.onLive_policy (s : State) (c : Client) (f : LiveClaim → LiveClaim) :
    (s.onLive c f).policy = s.policy := rfl

@[simp] theorem State.onLive_acct (s : State) (c : Client) (f : LiveClaim → LiveClaim) :
    (s.onLive c f).acct = s.acct := rfl

@[simp] theorem State.onLive_sup (s : State) (c : Client) (f : LiveClaim → LiveClaim) :
    (s.onLive c f).sup = s.sup := rfl

@[simp] theorem State.onLive_flows (s : State) (c : Client) (f : LiveClaim → LiveClaim) :
    (s.onLive c f).flows = s.flows := rfl

@[simp] theorem State.onLive_plan (s : State) (c : Client) (f : LiveClaim → LiveClaim) :
    (s.onLive c f).plan = s.plan := rfl

@[simp] theorem State.onLive_arb (s : State) (c : Client) (f : LiveClaim → LiveClaim) :
    (s.onLive c f).arb = s.arb := rfl

@[simp] theorem State.onLive_channel (s : State) (c : Client) (f : LiveClaim → LiveClaim) :
    (s.onLive c f).channel = s.channel := rfl

@[simp] theorem State.onLive_links (s : State) (c : Client) (f : LiveClaim → LiveClaim) :
    (s.onLive c f).links = s.links := rfl

@[simp] theorem State.onLive_port (s : State) (c : Client) (f : LiveClaim → LiveClaim) :
    (s.onLive c f).port = s.port := rfl

@[simp] theorem State.onLive_freeIndex (s : State) (c : Client) (f : LiveClaim → LiveClaim) :
    (s.onLive c f).freeIndex = s.freeIndex := rfl

@[simp] theorem State.onLive_pending (s : State) (c : Client) (f : LiveClaim → LiveClaim) :
    (s.onLive c f).pending = s.pending := rfl

/-! ## onFlow -/

@[simp] theorem State.onFlow_resetn (s : State) (k : Nat) (f : Flow → Flow) :
    (s.onFlow k f).resetn = s.resetn := rfl

@[simp] theorem State.onFlow_clock (s : State) (k : Nat) (f : Flow → Flow) :
    (s.onFlow k f).clock = s.clock := rfl

@[simp] theorem State.onFlow_policy (s : State) (k : Nat) (f : Flow → Flow) :
    (s.onFlow k f).policy = s.policy := rfl

@[simp] theorem State.onFlow_acct (s : State) (k : Nat) (f : Flow → Flow) :
    (s.onFlow k f).acct = s.acct := rfl

@[simp] theorem State.onFlow_sup (s : State) (k : Nat) (f : Flow → Flow) :
    (s.onFlow k f).sup = s.sup := rfl

@[simp] theorem State.onFlow_plan (s : State) (k : Nat) (f : Flow → Flow) :
    (s.onFlow k f).plan = s.plan := rfl

@[simp] theorem State.onFlow_arb (s : State) (k : Nat) (f : Flow → Flow) :
    (s.onFlow k f).arb = s.arb := rfl

@[simp] theorem State.onFlow_live (s : State) (k : Nat) (f : Flow → Flow) :
    (s.onFlow k f).live = s.live := rfl

@[simp] theorem State.onFlow_channel (s : State) (k : Nat) (f : Flow → Flow) :
    (s.onFlow k f).channel = s.channel := rfl

@[simp] theorem State.onFlow_links (s : State) (k : Nat) (f : Flow → Flow) :
    (s.onFlow k f).links = s.links := rfl

@[simp] theorem State.onFlow_port (s : State) (k : Nat) (f : Flow → Flow) :
    (s.onFlow k f).port = s.port := rfl

@[simp] theorem State.onFlow_freeIndex (s : State) (k : Nat) (f : Flow → Flow) :
    (s.onFlow k f).freeIndex = s.freeIndex := rfl

@[simp] theorem State.onFlow_pending (s : State) (k : Nat) (f : Flow → Flow) :
    (s.onFlow k f).pending = s.pending := rfl

/-! ## onEntry -/

@[simp] theorem State.onEntry_resetn (s : State) (n : Nat) (f : Entry → Option Entry) :
    (s.onEntry n f).resetn = s.resetn := rfl

@[simp] theorem State.onEntry_clock (s : State) (n : Nat) (f : Entry → Option Entry) :
    (s.onEntry n f).clock = s.clock := rfl

@[simp] theorem State.onEntry_policy (s : State) (n : Nat) (f : Entry → Option Entry) :
    (s.onEntry n f).policy = s.policy := rfl

@[simp] theorem State.onEntry_acct (s : State) (n : Nat) (f : Entry → Option Entry) :
    (s.onEntry n f).acct = s.acct := rfl

@[simp] theorem State.onEntry_sup (s : State) (n : Nat) (f : Entry → Option Entry) :
    (s.onEntry n f).sup = s.sup := rfl

@[simp] theorem State.onEntry_flows (s : State) (n : Nat) (f : Entry → Option Entry) :
    (s.onEntry n f).flows = s.flows := rfl

@[simp] theorem State.onEntry_arb (s : State) (n : Nat) (f : Entry → Option Entry) :
    (s.onEntry n f).arb = s.arb := rfl

@[simp] theorem State.onEntry_live (s : State) (n : Nat) (f : Entry → Option Entry) :
    (s.onEntry n f).live = s.live := rfl

@[simp] theorem State.onEntry_channel (s : State) (n : Nat) (f : Entry → Option Entry) :
    (s.onEntry n f).channel = s.channel := rfl

@[simp] theorem State.onEntry_links (s : State) (n : Nat) (f : Entry → Option Entry) :
    (s.onEntry n f).links = s.links := rfl

@[simp] theorem State.onEntry_port (s : State) (n : Nat) (f : Entry → Option Entry) :
    (s.onEntry n f).port = s.port := rfl

@[simp] theorem State.onEntry_freeIndex (s : State) (n : Nat) (f : Entry → Option Entry) :
    (s.onEntry n f).freeIndex = s.freeIndex := rfl

@[simp] theorem State.onEntry_pending (s : State) (n : Nat) (f : Entry → Option Entry) :
    (s.onEntry n f).pending = s.pending := rfl

/-! ## setPortNotice -/

@[simp] theorem State.setPortNotice_resetn (s : State) (n : PortNotice) :
    (s.setPortNotice n).resetn = s.resetn := rfl

@[simp] theorem State.setPortNotice_clock (s : State) (n : PortNotice) :
    (s.setPortNotice n).clock = s.clock := rfl

@[simp] theorem State.setPortNotice_policy (s : State) (n : PortNotice) :
    (s.setPortNotice n).policy = s.policy := rfl

@[simp] theorem State.setPortNotice_acct (s : State) (n : PortNotice) :
    (s.setPortNotice n).acct = s.acct := rfl

@[simp] theorem State.setPortNotice_sup (s : State) (n : PortNotice) :
    (s.setPortNotice n).sup = s.sup := rfl

@[simp] theorem State.setPortNotice_flows (s : State) (n : PortNotice) :
    (s.setPortNotice n).flows = s.flows := rfl

@[simp] theorem State.setPortNotice_plan (s : State) (n : PortNotice) :
    (s.setPortNotice n).plan = s.plan := rfl

@[simp] theorem State.setPortNotice_arb (s : State) (n : PortNotice) :
    (s.setPortNotice n).arb = s.arb := rfl

@[simp] theorem State.setPortNotice_live (s : State) (n : PortNotice) :
    (s.setPortNotice n).live = s.live := rfl

@[simp] theorem State.setPortNotice_channel (s : State) (n : PortNotice) :
    (s.setPortNotice n).channel = s.channel := rfl

@[simp] theorem State.setPortNotice_links (s : State) (n : PortNotice) :
    (s.setPortNotice n).links = s.links := rfl

@[simp] theorem State.setPortNotice_freeIndex (s : State) (n : PortNotice) :
    (s.setPortNotice n).freeIndex = s.freeIndex := rfl

@[simp] theorem State.setPortNotice_pending (s : State) (n : PortNotice) :
    (s.setPortNotice n).pending = s.pending := rfl

/-! ## setPosition -/

@[simp] theorem State.setPosition_resetn (s : State) (c : Client) :
    (s.setPosition c).resetn = s.resetn := rfl

@[simp] theorem State.setPosition_clock (s : State) (c : Client) :
    (s.setPosition c).clock = s.clock := rfl

@[simp] theorem State.setPosition_policy (s : State) (c : Client) :
    (s.setPosition c).policy = s.policy := rfl

@[simp] theorem State.setPosition_acct (s : State) (c : Client) :
    (s.setPosition c).acct = s.acct := rfl

@[simp] theorem State.setPosition_sup (s : State) (c : Client) :
    (s.setPosition c).sup = s.sup := rfl

@[simp] theorem State.setPosition_flows (s : State) (c : Client) :
    (s.setPosition c).flows = s.flows := rfl

@[simp] theorem State.setPosition_plan (s : State) (c : Client) :
    (s.setPosition c).plan = s.plan := rfl

@[simp] theorem State.setPosition_live (s : State) (c : Client) :
    (s.setPosition c).live = s.live := rfl

@[simp] theorem State.setPosition_channel (s : State) (c : Client) :
    (s.setPosition c).channel = s.channel := rfl

@[simp] theorem State.setPosition_links (s : State) (c : Client) :
    (s.setPosition c).links = s.links := rfl

@[simp] theorem State.setPosition_port (s : State) (c : Client) :
    (s.setPosition c).port = s.port := rfl

@[simp] theorem State.setPosition_freeIndex (s : State) (c : Client) :
    (s.setPosition c).freeIndex = s.freeIndex := rfl

@[simp] theorem State.setPosition_pending (s : State) (c : Client) :
    (s.setPosition c).pending = s.pending := rfl

/-! ## closeCharge -/

@[simp] theorem State.closeCharge_resetn (s : State) :
    (s.closeCharge).resetn = s.resetn := rfl

@[simp] theorem State.closeCharge_clock (s : State) :
    (s.closeCharge).clock = s.clock := rfl

@[simp] theorem State.closeCharge_policy (s : State) :
    (s.closeCharge).policy = s.policy := rfl

@[simp] theorem State.closeCharge_sup (s : State) :
    (s.closeCharge).sup = s.sup := rfl

@[simp] theorem State.closeCharge_flows (s : State) :
    (s.closeCharge).flows = s.flows := rfl

@[simp] theorem State.closeCharge_plan (s : State) :
    (s.closeCharge).plan = s.plan := rfl

@[simp] theorem State.closeCharge_arb (s : State) :
    (s.closeCharge).arb = s.arb := rfl

@[simp] theorem State.closeCharge_live (s : State) :
    (s.closeCharge).live = s.live := rfl

@[simp] theorem State.closeCharge_channel (s : State) :
    (s.closeCharge).channel = s.channel := rfl

@[simp] theorem State.closeCharge_links (s : State) :
    (s.closeCharge).links = s.links := rfl

@[simp] theorem State.closeCharge_port (s : State) :
    (s.closeCharge).port = s.port := rfl

@[simp] theorem State.closeCharge_freeIndex (s : State) :
    (s.closeCharge).freeIndex = s.freeIndex := rfl

@[simp] theorem State.closeCharge_pending (s : State) :
    (s.closeCharge).pending = s.pending := rfl

/-! ## countPreemption -/

@[simp] theorem State.countPreemption_resetn (s : State) :
    (s.countPreemption).resetn = s.resetn := rfl

@[simp] theorem State.countPreemption_clock (s : State) :
    (s.countPreemption).clock = s.clock := rfl

@[simp] theorem State.countPreemption_policy (s : State) :
    (s.countPreemption).policy = s.policy := rfl

@[simp] theorem State.countPreemption_sup (s : State) :
    (s.countPreemption).sup = s.sup := rfl

@[simp] theorem State.countPreemption_flows (s : State) :
    (s.countPreemption).flows = s.flows := rfl

@[simp] theorem State.countPreemption_plan (s : State) :
    (s.countPreemption).plan = s.plan := rfl

@[simp] theorem State.countPreemption_arb (s : State) :
    (s.countPreemption).arb = s.arb := rfl

@[simp] theorem State.countPreemption_live (s : State) :
    (s.countPreemption).live = s.live := rfl

@[simp] theorem State.countPreemption_channel (s : State) :
    (s.countPreemption).channel = s.channel := rfl

@[simp] theorem State.countPreemption_links (s : State) :
    (s.countPreemption).links = s.links := rfl

@[simp] theorem State.countPreemption_port (s : State) :
    (s.countPreemption).port = s.port := rfl

@[simp] theorem State.countPreemption_freeIndex (s : State) :
    (s.countPreemption).freeIndex = s.freeIndex := rfl

@[simp] theorem State.countPreemption_pending (s : State) :
    (s.countPreemption).pending = s.pending := rfl

/-! ## countMiss -/

@[simp] theorem State.countMiss_resetn (s : State) :
    (s.countMiss).resetn = s.resetn := rfl

@[simp] theorem State.countMiss_clock (s : State) :
    (s.countMiss).clock = s.clock := rfl

@[simp] theorem State.countMiss_policy (s : State) :
    (s.countMiss).policy = s.policy := rfl

@[simp] theorem State.countMiss_sup (s : State) :
    (s.countMiss).sup = s.sup := rfl

@[simp] theorem State.countMiss_flows (s : State) :
    (s.countMiss).flows = s.flows := rfl

@[simp] theorem State.countMiss_plan (s : State) :
    (s.countMiss).plan = s.plan := rfl

@[simp] theorem State.countMiss_arb (s : State) :
    (s.countMiss).arb = s.arb := rfl

@[simp] theorem State.countMiss_live (s : State) :
    (s.countMiss).live = s.live := rfl

@[simp] theorem State.countMiss_channel (s : State) :
    (s.countMiss).channel = s.channel := rfl

@[simp] theorem State.countMiss_links (s : State) :
    (s.countMiss).links = s.links := rfl

@[simp] theorem State.countMiss_port (s : State) :
    (s.countMiss).port = s.port := rfl

@[simp] theorem State.countMiss_freeIndex (s : State) :
    (s.countMiss).freeIndex = s.freeIndex := rfl

@[simp] theorem State.countMiss_pending (s : State) :
    (s.countMiss).pending = s.pending := rfl

/-! ## countOverstay -/

@[simp] theorem State.countOverstay_resetn (s : State) :
    (s.countOverstay).resetn = s.resetn := rfl

@[simp] theorem State.countOverstay_clock (s : State) :
    (s.countOverstay).clock = s.clock := rfl

@[simp] theorem State.countOverstay_policy (s : State) :
    (s.countOverstay).policy = s.policy := rfl

@[simp] theorem State.countOverstay_sup (s : State) :
    (s.countOverstay).sup = s.sup := rfl

@[simp] theorem State.countOverstay_flows (s : State) :
    (s.countOverstay).flows = s.flows := rfl

@[simp] theorem State.countOverstay_plan (s : State) :
    (s.countOverstay).plan = s.plan := rfl

@[simp] theorem State.countOverstay_arb (s : State) :
    (s.countOverstay).arb = s.arb := rfl

@[simp] theorem State.countOverstay_live (s : State) :
    (s.countOverstay).live = s.live := rfl

@[simp] theorem State.countOverstay_channel (s : State) :
    (s.countOverstay).channel = s.channel := rfl

@[simp] theorem State.countOverstay_links (s : State) :
    (s.countOverstay).links = s.links := rfl

@[simp] theorem State.countOverstay_port (s : State) :
    (s.countOverstay).port = s.port := rfl

@[simp] theorem State.countOverstay_freeIndex (s : State) :
    (s.countOverstay).freeIndex = s.freeIndex := rfl

@[simp] theorem State.countOverstay_pending (s : State) :
    (s.countOverstay).pending = s.pending := rfl

/-! ## turnHolding -/

@[simp] theorem State.turnHolding_resetn (s : State) (c : Client) :
    (s.turnHolding c).resetn = s.resetn := rfl

@[simp] theorem State.turnHolding_clock (s : State) (c : Client) :
    (s.turnHolding c).clock = s.clock := rfl

@[simp] theorem State.turnHolding_policy (s : State) (c : Client) :
    (s.turnHolding c).policy = s.policy := rfl

@[simp] theorem State.turnHolding_acct (s : State) (c : Client) :
    (s.turnHolding c).acct = s.acct := rfl

@[simp] theorem State.turnHolding_sup (s : State) (c : Client) :
    (s.turnHolding c).sup = s.sup := rfl

@[simp] theorem State.turnHolding_arb (s : State) (c : Client) :
    (s.turnHolding c).arb = s.arb := rfl

@[simp] theorem State.turnHolding_channel (s : State) (c : Client) :
    (s.turnHolding c).channel = s.channel := rfl

@[simp] theorem State.turnHolding_links (s : State) (c : Client) :
    (s.turnHolding c).links = s.links := rfl

@[simp] theorem State.turnHolding_port (s : State) (c : Client) :
    (s.turnHolding c).port = s.port := rfl

@[simp] theorem State.turnHolding_freeIndex (s : State) (c : Client) :
    (s.turnHolding c).freeIndex = s.freeIndex := rfl

@[simp] theorem State.turnHolding_pending (s : State) (c : Client) :
    (s.turnHolding c).pending = s.pending := rfl

/-! ## finishWrite -/

@[simp] theorem State.finishWrite_resetn (s : State) (r : PortResult) (bs : List Byte) :
    (s.finishWrite r bs).resetn = s.resetn := rfl

@[simp] theorem State.finishWrite_clock (s : State) (r : PortResult) (bs : List Byte) :
    (s.finishWrite r bs).clock = s.clock := rfl

@[simp] theorem State.finishWrite_policy (s : State) (r : PortResult) (bs : List Byte) :
    (s.finishWrite r bs).policy = s.policy := rfl

@[simp] theorem State.finishWrite_acct (s : State) (r : PortResult) (bs : List Byte) :
    (s.finishWrite r bs).acct = s.acct := rfl

@[simp] theorem State.finishWrite_sup (s : State) (r : PortResult) (bs : List Byte) :
    (s.finishWrite r bs).sup = s.sup := rfl

@[simp] theorem State.finishWrite_flows (s : State) (r : PortResult) (bs : List Byte) :
    (s.finishWrite r bs).flows = s.flows := rfl

@[simp] theorem State.finishWrite_plan (s : State) (r : PortResult) (bs : List Byte) :
    (s.finishWrite r bs).plan = s.plan := rfl

@[simp] theorem State.finishWrite_arb (s : State) (r : PortResult) (bs : List Byte) :
    (s.finishWrite r bs).arb = s.arb := rfl

@[simp] theorem State.finishWrite_live (s : State) (r : PortResult) (bs : List Byte) :
    (s.finishWrite r bs).live = s.live := rfl

@[simp] theorem State.finishWrite_channel (s : State) (r : PortResult) (bs : List Byte) :
    (s.finishWrite r bs).channel = s.channel := rfl

@[simp] theorem State.finishWrite_links (s : State) (r : PortResult) (bs : List Byte) :
    (s.finishWrite r bs).links = s.links := rfl

@[simp] theorem State.finishWrite_freeIndex (s : State) (r : PortResult) (bs : List Byte) :
    (s.finishWrite r bs).freeIndex = s.freeIndex := rfl

@[simp] theorem State.finishWrite_pending (s : State) (r : PortResult) (bs : List Byte) :
    (s.finishWrite r bs).pending = s.pending := rfl

/-! ## refuseWrite -/

@[simp] theorem State.refuseWrite_resetn (s : State) (r : PortResult) :
    (s.refuseWrite r).resetn = s.resetn := rfl

@[simp] theorem State.refuseWrite_clock (s : State) (r : PortResult) :
    (s.refuseWrite r).clock = s.clock := rfl

@[simp] theorem State.refuseWrite_policy (s : State) (r : PortResult) :
    (s.refuseWrite r).policy = s.policy := rfl

@[simp] theorem State.refuseWrite_acct (s : State) (r : PortResult) :
    (s.refuseWrite r).acct = s.acct := rfl

@[simp] theorem State.refuseWrite_sup (s : State) (r : PortResult) :
    (s.refuseWrite r).sup = s.sup := rfl

@[simp] theorem State.refuseWrite_flows (s : State) (r : PortResult) :
    (s.refuseWrite r).flows = s.flows := rfl

@[simp] theorem State.refuseWrite_plan (s : State) (r : PortResult) :
    (s.refuseWrite r).plan = s.plan := rfl

@[simp] theorem State.refuseWrite_arb (s : State) (r : PortResult) :
    (s.refuseWrite r).arb = s.arb := rfl

@[simp] theorem State.refuseWrite_live (s : State) (r : PortResult) :
    (s.refuseWrite r).live = s.live := rfl

@[simp] theorem State.refuseWrite_channel (s : State) (r : PortResult) :
    (s.refuseWrite r).channel = s.channel := rfl

@[simp] theorem State.refuseWrite_links (s : State) (r : PortResult) :
    (s.refuseWrite r).links = s.links := rfl

@[simp] theorem State.refuseWrite_freeIndex (s : State) (r : PortResult) :
    (s.refuseWrite r).freeIndex = s.freeIndex := rfl

@[simp] theorem State.refuseWrite_pending (s : State) (r : PortResult) :
    (s.refuseWrite r).pending = s.pending := rfl

/-! ## answer -/

@[simp] theorem State.answer_resetn (s : State) (c : Client) (r : Result) (d : Value) :
    (s.answer c r d).resetn = s.resetn := rfl

@[simp] theorem State.answer_clock (s : State) (c : Client) (r : Result) (d : Value) :
    (s.answer c r d).clock = s.clock := rfl

@[simp] theorem State.answer_policy (s : State) (c : Client) (r : Result) (d : Value) :
    (s.answer c r d).policy = s.policy := rfl

@[simp] theorem State.answer_acct (s : State) (c : Client) (r : Result) (d : Value) :
    (s.answer c r d).acct = s.acct := rfl

@[simp] theorem State.answer_sup (s : State) (c : Client) (r : Result) (d : Value) :
    (s.answer c r d).sup = s.sup := rfl

@[simp] theorem State.answer_flows (s : State) (c : Client) (r : Result) (d : Value) :
    (s.answer c r d).flows = s.flows := rfl

@[simp] theorem State.answer_plan (s : State) (c : Client) (r : Result) (d : Value) :
    (s.answer c r d).plan = s.plan := rfl

@[simp] theorem State.answer_arb (s : State) (c : Client) (r : Result) (d : Value) :
    (s.answer c r d).arb = s.arb := rfl

@[simp] theorem State.answer_live (s : State) (c : Client) (r : Result) (d : Value) :
    (s.answer c r d).live = s.live := rfl

@[simp] theorem State.answer_channel (s : State) (c : Client) (r : Result) (d : Value) :
    (s.answer c r d).channel = s.channel := rfl

@[simp] theorem State.answer_port (s : State) (c : Client) (r : Result) (d : Value) :
    (s.answer c r d).port = s.port := rfl

@[simp] theorem State.answer_freeIndex (s : State) (c : Client) (r : Result) (d : Value) :
    (s.answer c r d).freeIndex = s.freeIndex := rfl

@[simp] theorem State.answer_pending (s : State) (c : Client) (r : Result) (d : Value) :
    (s.answer c r d).pending = s.pending := rfl

/-! ## tick -/

@[simp] theorem State.tick_resetn (s : State) :
    (s.tick).resetn = s.resetn := rfl

@[simp] theorem State.tick_policy (s : State) :
    (s.tick).policy = s.policy := rfl

@[simp] theorem State.tick_acct (s : State) :
    (s.tick).acct = s.acct := rfl

@[simp] theorem State.tick_sup (s : State) :
    (s.tick).sup = s.sup := rfl

@[simp] theorem State.tick_flows (s : State) :
    (s.tick).flows = s.flows := rfl

@[simp] theorem State.tick_plan (s : State) :
    (s.tick).plan = s.plan := rfl

@[simp] theorem State.tick_arb (s : State) :
    (s.tick).arb = s.arb := rfl

@[simp] theorem State.tick_live (s : State) :
    (s.tick).live = s.live := rfl

@[simp] theorem State.tick_channel (s : State) :
    (s.tick).channel = s.channel := rfl

@[simp] theorem State.tick_links (s : State) :
    (s.tick).links = s.links := rfl

@[simp] theorem State.tick_port (s : State) :
    (s.tick).port = s.port := rfl

@[simp] theorem State.tick_freeIndex (s : State) :
    (s.tick).freeIndex = s.freeIndex := rfl

@[simp] theorem State.tick_pending (s : State) :
    (s.tick).pending = s.pending := rfl

/-! ## setMode -/

@[simp] theorem State.setMode_resetn (s : State) (m : ArbiterMode) :
    (s.setMode m).resetn = s.resetn := by
  unfold State.setMode; split <;> rfl

@[simp] theorem State.setMode_clock (s : State) (m : ArbiterMode) :
    (s.setMode m).clock = s.clock := by
  unfold State.setMode; split <;> rfl

@[simp] theorem State.setMode_policy (s : State) (m : ArbiterMode) :
    (s.setMode m).policy = s.policy := by
  unfold State.setMode; split <;> rfl

@[simp] theorem State.setMode_sup (s : State) (m : ArbiterMode) :
    (s.setMode m).sup = s.sup := by
  unfold State.setMode; split <;> rfl

@[simp] theorem State.setMode_flows (s : State) (m : ArbiterMode) :
    (s.setMode m).flows = s.flows := by
  unfold State.setMode; split <;> rfl

@[simp] theorem State.setMode_plan (s : State) (m : ArbiterMode) :
    (s.setMode m).plan = s.plan := by
  unfold State.setMode; split <;> rfl

@[simp] theorem State.setMode_live (s : State) (m : ArbiterMode) :
    (s.setMode m).live = s.live := by
  unfold State.setMode; split <;> rfl

@[simp] theorem State.setMode_channel (s : State) (m : ArbiterMode) :
    (s.setMode m).channel = s.channel := by
  unfold State.setMode; split <;> rfl

@[simp] theorem State.setMode_links (s : State) (m : ArbiterMode) :
    (s.setMode m).links = s.links := by
  unfold State.setMode; split <;> rfl

@[simp] theorem State.setMode_port (s : State) (m : ArbiterMode) :
    (s.setMode m).port = s.port := by
  unfold State.setMode; split <;> rfl

@[simp] theorem State.setMode_freeIndex (s : State) (m : ArbiterMode) :
    (s.setMode m).freeIndex = s.freeIndex := by
  unfold State.setMode; split <;> rfl

@[simp] theorem State.setMode_pending (s : State) (m : ArbiterMode) :
    (s.setMode m).pending = s.pending := by
  unfold State.setMode; split <;> rfl

/-! ## giveNotice -/

@[simp] theorem State.giveNotice_resetn (s : State) (c : Client) (n : Notice) :
    (s.giveNotice c n).resetn = s.resetn := by
  unfold State.giveNotice; split <;> rfl

@[simp] theorem State.giveNotice_clock (s : State) (c : Client) (n : Notice) :
    (s.giveNotice c n).clock = s.clock := by
  unfold State.giveNotice; split <;> rfl

@[simp] theorem State.giveNotice_policy (s : State) (c : Client) (n : Notice) :
    (s.giveNotice c n).policy = s.policy := by
  unfold State.giveNotice; split <;> rfl

@[simp] theorem State.giveNotice_acct (s : State) (c : Client) (n : Notice) :
    (s.giveNotice c n).acct = s.acct := by
  unfold State.giveNotice; split <;> rfl

@[simp] theorem State.giveNotice_sup (s : State) (c : Client) (n : Notice) :
    (s.giveNotice c n).sup = s.sup := by
  unfold State.giveNotice; split <;> rfl

@[simp] theorem State.giveNotice_flows (s : State) (c : Client) (n : Notice) :
    (s.giveNotice c n).flows = s.flows := by
  unfold State.giveNotice; split <;> rfl

@[simp] theorem State.giveNotice_plan (s : State) (c : Client) (n : Notice) :
    (s.giveNotice c n).plan = s.plan := by
  unfold State.giveNotice; split <;> rfl

@[simp] theorem State.giveNotice_arb (s : State) (c : Client) (n : Notice) :
    (s.giveNotice c n).arb = s.arb := by
  unfold State.giveNotice; split <;> rfl

@[simp] theorem State.giveNotice_live (s : State) (c : Client) (n : Notice) :
    (s.giveNotice c n).live = s.live := by
  unfold State.giveNotice; split <;> rfl

@[simp] theorem State.giveNotice_channel (s : State) (c : Client) (n : Notice) :
    (s.giveNotice c n).channel = s.channel := by
  unfold State.giveNotice; split <;> rfl

@[simp] theorem State.giveNotice_port (s : State) (c : Client) (n : Notice) :
    (s.giveNotice c n).port = s.port := by
  unfold State.giveNotice; split <;> rfl

@[simp] theorem State.giveNotice_freeIndex (s : State) (c : Client) (n : Notice) :
    (s.giveNotice c n).freeIndex = s.freeIndex := by
  unfold State.giveNotice; split <;> rfl

@[simp] theorem State.giveNotice_pending (s : State) (c : Client) (n : Notice) :
    (s.giveNotice c n).pending = s.pending := by
  unfold State.giveNotice; split <;> rfl

/-! ## What the updates write -/

@[simp] theorem State.onLink_links (s : State) (c : Client) (f : Link → Link) :
    (s.onLink c f).links = s.links.set c (f (s.links.get c)) := rfl

@[simp] theorem State.onSup_sup (s : State) (c : Client) (f : Supervision → Supervision) :
    (s.onSup c f).sup = s.sup.set c (f (s.sup.get c)) := rfl

@[simp] theorem State.onLive_live (s : State) (c : Client) (f : LiveClaim → LiveClaim) :
    (s.onLive c f).live = s.live.set c (f (s.live.get c)) := rfl

@[simp] theorem State.onFlow_flows (s : State) (k : Nat) (f : Flow → Flow) :
    (s.onFlow k f).flows = onSlot k f s.flows := rfl

@[simp] theorem State.onEntry_plan (s : State) (n : Nat) (f : Entry → Option Entry) :
    (s.onEntry n f).plan = onNumber n f s.plan := rfl

@[simp] theorem State.setPosition_position (s : State) (c : Client) : (s.setPosition c).arb.position = c := rfl

@[simp] theorem State.setPosition_mode (s : State) (c : Client) : (s.setPosition c).arb.mode = s.arb.mode := rfl

@[simp] theorem State.setMode_mode (s : State) (m : ArbiterMode) : (s.setMode m).arb.mode = m := by
  unfold State.setMode; split <;> rfl

@[simp] theorem State.setMode_position (s : State) (m : ArbiterMode) :
    (s.setMode m).arb.position = s.arb.position := by
  unfold State.setMode; split <;> rfl

end Sys2Proof.Machine
end

