-- ==== Sys2Proof/Laws/Accounts.lean ====
section
/-!
SUPPORT. What the accountant's shared operations do to the accounts.
-/

namespace Sys2Proof.Machine

/-- Entering an arbiter state charges the account of that state. -/
@[simp] theorem State.setMode_charged (s : State) (m : ArbiterMode) :
    (s.setMode m).acct.charged = accountOf m := by
  unfold State.setMode
  split
  · rename_i h; exact h.symm
  · rfl

/-- Entering an arbiter state changes no client's present usage. -/
@[simp] theorem State.setMode_usageNow (s : State) (m : ArbiterMode) (c : Client) :
    (s.setMode m).usageNow c = s.usageNow c := by
  unfold State.setMode
  split
  · rfl
  · cases c <;> simp [State.usageNow, State.closeCharge, State.elapsed, PerClient.get]

/-- Entering an arbiter state changes the guard counter in no other way than by the time charged. -/
@[simp] theorem State.setMode_guardNow (s : State) (m : ArbiterMode) : (s.setMode m).guardNow = s.guardNow := by
  unfold State.setMode
  split
  · rfl
  · simp [State.guardNow, State.closeCharge, State.elapsed]

/-- Entering an arbiter state changes the idle counter in no other way than by the time charged. -/
@[simp] theorem State.setMode_idleNow (s : State) (m : ArbiterMode) : (s.setMode m).idleNow = s.idleNow := by
  unfold State.setMode
  split
  · rfl
  · simp [State.idleNow, State.closeCharge, State.elapsed]

/-- Entering an arbiter state keeps the window, its event counts, its record, the review count and the survey. -/
theorem State.setMode_window (s : State) (m : ArbiterMode) :
    (s.setMode m).acct.windowStart = s.acct.windowStart ∧
      (s.setMode m).acct.preemptions = s.acct.preemptions ∧ (s.setMode m).acct.misses = s.acct.misses ∧
      (s.setMode m).acct.overstays = s.acct.overstays ∧ (s.setMode m).acct.last = s.acct.last ∧
      (s.setMode m).acct.reviewCount = s.acct.reviewCount ∧ (s.setMode m).acct.survey = s.acct.survey := by
  unfold State.setMode
  split <;> exact ⟨rfl, rfl, rfl, rfl, rfl, rfl, rfl⟩

/-- Between arbiter states of one account nothing of the accountant changes. -/
theorem State.setMode_same_account (s : State) (m : ArbiterMode) (h : accountOf m = s.acct.charged) :
    s.setMode m = { s with arb := { s.arb with mode := m } } := by simp [State.setMode, h]

/-- The penalty lies in 0..15 (R12). -/
theorem penaltyOf_le (w share usage : Nat) : penaltyOf w share usage ≤ 15 := by
  unfold penaltyOf
  split <;> omega

/-- The penalty of no usage is 0 (R12). -/
@[simp] theorem penaltyOf_zero (w share : Nat) : penaltyOf w share 0 = 0 := by simp [penaltyOf]

/-- The penalty rises with the usage (R13). -/
theorem penaltyOf_mono (w share u v : Nat) (h : u ≤ v) : penaltyOf w share u ≤ penaltyOf w share v := by
  unfold penaltyOf
  generalize allowanceOf w share = a
  split
  · omega
  · rename_i hu
    rw [if_neg (by omega)]
    have := Nat.div_le_div_right (c := w) (Nat.mul_le_mul_right 64 (Nat.sub_le_sub_right h a))
    omega

end Sys2Proof.Machine
end

