-- ==== Sys2Proof/Laws/Arbiter.lean ====
section
/-!
SUPPORT. What the arbiter's shared operations can do, one lemma for each, and what none of them touches.
-/

namespace Sys2Proof.Machine

/-! ## What each operation can do -/

/-- An answer starts a guard exactly when it moves the switch or sets another guard deadline. -/
theorem State.guardStarted_iff (s t : State) :
    s.guardStarted t = true ↔
      t.arb.position ≠ s.arb.position ∨ t.arb.mode.guardEnd ≠ s.arb.mode.guardEnd := by
  simp [State.guardStarted]

/-- An arbiter whose record has not changed has started no guard. -/
theorem State.guardStarted_of_arb_eq {s t : State} (h : t.arb = s.arb) : s.guardStarted t = false := by
  simp [State.guardStarted, h]

/-- A guard of length 0 is passed, or nothing more happens. -/
theorem State.passZeroGuard_cases (s t : State) :
    s.passZeroGuard t = t ∨
      t.policy.guardTime = 0 ∧ s.guardStarted t = true ∧ t.guardReached = true ∧
        s.passZeroGuard t = t.endGuard := by
  unfold State.passZeroGuard
  split
  · rename_i h; exact .inr ⟨h.1, h.2.1, h.2.2, rfl⟩
  · exact .inl rfl

/-- With a guard time above 0 no guard is passed at once. -/
theorem State.passZeroGuard_of_ne (s t : State) (h : t.policy.guardTime ≠ 0) : s.passZeroGuard t = t := by
  simp [State.passZeroGuard, h]

/-- Where no guard has started, none is passed: a guard that an answer keeps ends by its own event. -/
theorem State.passZeroGuard_of_kept {s t : State} (h : s.guardStarted t = false) : s.passZeroGuard t = t := by
  simp [State.passZeroGuard, h]

/-- An arbiter whose record has not changed passes no guard. -/
@[simp] theorem State.passZeroGuard_self (s : State) : s.passZeroGuard s = s :=
  State.passZeroGuard_of_kept (State.guardStarted_of_arb_eq rfl)

/-- The park, by the first table of R94. -/
theorem State.park_cases (s : State) :
    (s.arb.position = s.policy.defaultPos ∧ s.arb.mode.guardEnd = none ∧ s.park = s.setMode .free) ∨
      (∃ g, s.arb.position = s.policy.defaultPos ∧ s.arb.mode.guardEnd = some g ∧
        s.park = s.setMode (.parking g)) ∨
      s.arb.position ≠ s.policy.defaultPos ∧ s.park = s.moveToDefault := by
  unfold State.park
  by_cases h : s.arb.position = s.policy.defaultPos
  · cases hg : s.arb.mode.guardEnd with
    | none => exact .inl ⟨h, rfl, by simp [h]⟩
    | some g => exact .inr (.inl ⟨g, h, rfl, by simp [h]⟩)
  · exact .inr (.inr ⟨h, by simp [h]⟩)

/-- The hand-off, by the two tables of R94. -/
theorem State.handOff_cases (s : State) :
    (s.pick (fun _ => true) = none ∧ s.handOff = s.park) ∨
      ∃ c w, s.pick (fun _ => true) = some (c, w) ∧
        ((s.arb.position = c ∧ s.arb.mode.guardEnd = none ∧ s.handOff = s.grant c) ∨
          (∃ g, s.arb.position = c ∧ s.arb.mode.guardEnd = some g ∧
            s.handOff = s.setMode (.settling c g)) ∨
          s.arb.position ≠ c ∧ s.handOff = s.settleToward c) := by
  unfold State.handOff
  cases hp : s.pick (fun _ => true) with
  | none => exact .inl ⟨rfl, rfl⟩
  | some x =>
    obtain ⟨c, w⟩ := x
    refine .inr ⟨c, w, rfl, ?_⟩
    by_cases h : s.arb.position = c
    · cases hg : s.arb.mode.guardEnd with
      | none => exact .inl ⟨h, rfl, by simp [h]⟩
      | some g => exact .inr (.inl ⟨g, h, rfl, by simp [h]⟩)
    · exact .inr (.inr ⟨h, by simp [h]⟩)

/-- The displacement check changes nothing, or it displaces (R100). -/
theorem State.displacementCheck_cases (s : State) :
    s.displacementCheck = s ∨
      ∃ n g d w, s.arb.mode = .settling n g ∧ s.pick (fun c => c != n) = some (d, w) ∧
        (s.waitingWeight n).getD 0 + s.policy.margin ≤ w ∧ s.displacementCheck = s.settleToward d := by
  unfold State.displacementCheck
  split
  · rename_i n g hm
    split
    · rename_i d w hp
      split
      · rename_i hw; exact .inr ⟨n, g, d, w, hm, hp, hw, rfl⟩
      · exact .inl rfl
    · exact .inl rfl
  · exact .inl rfl

/-- A cut entry retires on its last count; otherwise it advances, and is DUE at once where its new start has been reached
(R72, R73). -/
theorem Entry.cutFor_eq (h : Client) (now : AirTime) (e : Entry) :
    Entry.cutFor h now e =
      if e.owner = h ∧ e.isHolding = true then
        if e.count = 1 then none
        else some { e with
          start := e.advancedStart now, count := e.count - 1, pendingOffset := none
          status := if reached now (e.advancedStart now) then .due else .scheduled }
      else some e := by
  unfold Entry.cutFor Entry.advance Entry.woken
  split <;> [skip; rfl]
  split
  · rfl
  · by_cases hr : reached now (e.advancedStart now) = true <;> simp [hr]

/-- The preemption check changes nothing, or it preempts (R101). -/
theorem State.preemptionCheck_cases (s : State) :
    s.preemptionCheck = s ∨
      ∃ h d w, s.arb.mode = .held h ∧ s.pick (fun c => c != h) = some (d, w) ∧
        (s.holdingWeight h).getD 0 + s.policy.margin ≤ w ∧ s.shielded h = false ∧
        s.preemptionCheck = s.preempt h d := by
  unfold State.preemptionCheck
  split
  · rename_i h hm
    split
    · rename_i d w hp
      split
      · rename_i hw; exact .inr ⟨h, d, w, hm, hp, hw.1, hw.2, rfl⟩
      · exact .inl rfl
    · exact .inl rfl
  · exact .inl rfl

/-- The check of the arbiter's state is one of the two checks, or none (R103). -/
theorem State.stateCheck_cases (s : State) :
    s.stateCheck = s.passZeroGuard s.preemptionCheck ∨ s.stateCheck = s.passZeroGuard s.displacementCheck ∨
      s.stateCheck = s := by
  unfold State.stateCheck
  split
  · exact .inl rfl
  · exact .inr (.inl rfl)
  · exact .inr (.inr (State.passZeroGuard_self s))

/-- In FREE and PARKING no check arises (R103). -/
theorem State.stateCheck_rest (s : State) (h : s.arb.mode = .free ∨ ∃ g, s.arb.mode = .parking g) :
    s.stateCheck = s := by
  unfold State.stateCheck
  rcases h with h | ⟨g, h⟩ <;> simp [h]

/-- The arrival of a claim of the client, by the cases of R95. -/
theorem State.claimArrived_cases (s : State) (c : Client) :
    s.claimArrived c = s.passZeroGuard s.handOff ∨ s.claimArrived c = s ∨
      s.claimArrived c = s.passZeroGuard s.displacementCheck ∨
      s.claimArrived c = s.passZeroGuard (s.turnHolding c) ∨
      s.claimArrived c = s.passZeroGuard s.preemptionCheck := by
  unfold State.claimArrived
  split
  · exact .inl rfl
  · exact .inl rfl
  · split
    · exact .inr (.inl (State.passZeroGuard_self s))
    · exact .inr (.inr (.inl rfl))
  · split
    · exact .inr (.inr (.inr (.inl rfl)))
    · exact .inr (.inr (.inr (.inr rfl)))

/-- The departure of claims of the client, by the cases of R98, R99 and R107. -/
theorem State.claimsLeft_cases (b s : State) (c : Client) :
    b.claimsLeft s c = s.passZeroGuard s.handOff ∨ b.claimsLeft s c = s.passZeroGuard s.preemptionCheck ∨
      b.claimsLeft s c = s.passZeroGuard s.displacementCheck ∨ b.claimsLeft s c = s := by
  unfold State.claimsLeft
  split
  · split
    · split
      · exact .inl rfl
      · exact .inr (.inl rfl)
    · exact .inr (.inr (.inr (State.passZeroGuard_self s)))
  · split
    · split
      · exact .inl rfl
      · split
        · exact .inr (.inr (.inl rfl))
        · exact .inr (.inr (.inr (State.passZeroGuard_self s)))
    · exact .inr (.inr (.inr (State.passZeroGuard_self s)))
  · exact .inr (.inr (.inr (State.passZeroGuard_self s)))

/-- An entry falls due, or nothing happens (R68). -/
theorem State.wake_cases (s : State) (n : Nat) :
    s.wake n = s ∨
      ∃ e, s.entryAt n = some e ∧ e.status = .scheduled ∧ reached s.clock e.start = true ∧
        s.wake n = (s.onEntry n fun x => some { x with status := .due }).claimArrived e.owner := by
  unfold State.wake
  split
  · exact .inl rfl
  · rename_i e he
    split
    · rename_i h; exact .inr ⟨e, he, h.1, h.2, rfl⟩
    · exact .inl rfl

/-- The load step admits a load figure exactly under a cap above 0 that, with the whole of the air, has room for it
(R65). -/
theorem State.loadAdmits_iff (s : State) (c : Client) (f : Nat) :
    s.loadAdmits c f = true ↔ (s.policy.clients.get c).cap ≠ 0 ∧
      s.plannedLoad c + f ≤ (s.policy.clients.get c).cap ∧ s.totalLoad + f ≤ 1024 := by
  simp only [State.loadAdmits, Bool.and_eq_true, decide_eq_true_eq, and_assoc]
  exact Iff.rfl

/-! ## What no operation of the arbiter touches -/

/-- From `s` to `t` only the arbiter, the accounts, flows, entries, live claims and notices may differ. -/
structure ArbiterKeeps (s t : State) : Prop where
  resetn : t.resetn = s.resetn
  clock : t.clock = s.clock
  policy : t.policy = s.policy
  sup : t.sup = s.sup
  channel : t.channel = s.channel
  port : t.port = s.port
  freeIndex : t.freeIndex = s.freeIndex
  pending : t.pending = s.pending
  links : ∀ c, { t.links.get c with notices := 0 } = { s.links.get c with notices := 0 }

theorem ArbiterKeeps.refl (s : State) : ArbiterKeeps s s :=
  ⟨rfl, rfl, rfl, rfl, rfl, rfl, rfl, rfl, fun _ => rfl⟩

theorem ArbiterKeeps.trans {s t u : State} (h : ArbiterKeeps s t) (k : ArbiterKeeps t u) : ArbiterKeeps s u :=
  ⟨k.resetn.trans h.resetn, k.clock.trans h.clock, k.policy.trans h.policy, k.sup.trans h.sup,
    k.channel.trans h.channel, k.port.trans h.port, k.freeIndex.trans h.freeIndex,
    k.pending.trans h.pending, fun c => (k.links c).trans (h.links c)⟩

/-- Equal fields outside the arbiter's reach make the relation. -/
theorem ArbiterKeeps.of_eq {s t : State} (h : t = { s with
    acct := t.acct, flows := t.flows, plan := t.plan, arb := t.arb, live := t.live }) : ArbiterKeeps s t := by
  rw [h]
  exact ⟨rfl, rfl, rfl, rfl, rfl, rfl, rfl, rfl, fun _ => rfl⟩

theorem State.setMode_keeps (s : State) (m : ArbiterMode) : ArbiterKeeps s (s.setMode m) :=
  ⟨by simp, by simp, by simp, by simp, by simp, by simp, by simp, by simp, by simp⟩

theorem State.setPosition_keeps (s : State) (c : Client) : ArbiterKeeps s (s.setPosition c) :=
  ⟨rfl, rfl, rfl, rfl, rfl, rfl, rfl, rfl, fun _ => rfl⟩

theorem State.settleToward_keeps (s : State) (c : Client) : ArbiterKeeps s (s.settleToward c) :=
  (s.setMode_keeps _).trans (State.setPosition_keeps _ _)

theorem State.moveToDefault_keeps (s : State) : ArbiterKeeps s s.moveToDefault :=
  (s.setMode_keeps _).trans (State.setPosition_keeps _ _)

theorem State.turnHolding_keeps (s : State) (c : Client) : ArbiterKeeps s (s.turnHolding c) :=
  ⟨rfl, rfl, rfl, rfl, rfl, rfl, rfl, rfl, fun _ => rfl⟩

theorem State.grant_keeps (s : State) (c : Client) : ArbiterKeeps s (s.grant c) :=
  (s.setMode_keeps _).trans (State.turnHolding_keeps _ _)

theorem State.park_keeps (s : State) : ArbiterKeeps s s.park := by
  rcases s.park_cases with ⟨_, _, h⟩ | ⟨g, _, _, h⟩ | ⟨_, h⟩ <;> rw [h]
  · exact s.setMode_keeps _
  · exact s.setMode_keeps _
  · exact s.moveToDefault_keeps

theorem State.handOff_keeps (s : State) : ArbiterKeeps s s.handOff := by
  rcases s.handOff_cases with ⟨_, h⟩ | ⟨c, w, _, ⟨_, _, h⟩ | ⟨g, _, _, h⟩ | ⟨_, h⟩⟩ <;> rw [h]
  · exact s.park_keeps
  · exact s.grant_keeps c
  · exact s.setMode_keeps _
  · exact s.settleToward_keeps c

theorem State.giveNotice_keeps (s : State) (c : Client) (n : Notice) : ArbiterKeeps s (s.giveNotice c n) := by
  refine ⟨by simp, by simp, by simp, by simp, by simp, by simp, by simp, by simp, fun d => ?_⟩
  unfold State.giveNotice
  split
  · rfl
  · cases c <;> cases d <;> rfl

theorem State.giveNoticeIf_keeps (s : State) (p : Bool) (c : Client) (n : Notice) :
    ArbiterKeeps s (s.giveNoticeIf p c n) := by
  unfold State.giveNoticeIf
  split
  · exact s.giveNotice_keeps c n
  · exact .refl s

theorem State.cutHoldings_keeps (s : State) (c : Client) : ArbiterKeeps s (s.cutHoldings c) := by
  unfold State.cutHoldings
  refine .trans ?_ (State.giveNoticeIf_keeps _ _ _ _)
  refine .trans ?_ (State.giveNotice_keeps _ _ _)
  exact ⟨rfl, rfl, rfl, rfl, rfl, rfl, rfl, rfl, fun _ => rfl⟩

theorem State.displacementCheck_keeps (s : State) : ArbiterKeeps s s.displacementCheck := by
  rcases s.displacementCheck_cases with h | ⟨n, g, d, w, _, _, _, h⟩ <;> rw [h]
  · exact .refl s
  · exact s.settleToward_keeps d

theorem State.preempt_keeps (s : State) (h d : Client) : ArbiterKeeps s (s.preempt h d) := by
  have k : ArbiterKeeps s (((s.cutHoldings h).countPreemption).settleToward d) := by
    refine .trans (s.cutHoldings_keeps h) (.trans ?_ (State.settleToward_keeps _ _))
    exact ⟨rfl, rfl, rfl, rfl, rfl, rfl, rfl, rfl, fun _ => rfl⟩
  unfold State.preempt
  dsimp only
  split
  · exact k
  · exact k.trans (State.displacementCheck_keeps _)

theorem State.preemptionCheck_keeps (s : State) : ArbiterKeeps s s.preemptionCheck := by
  rcases s.preemptionCheck_cases with h | ⟨h, d, w, _, _, _, _, e⟩
  · rw [h]; exact .refl s
  · rw [e]; exact s.preempt_keeps h d

theorem State.endGuard_keeps (s : State) : ArbiterKeeps s s.endGuard := by
  unfold State.endGuard
  split
  · exact s.grant_keeps _
  · exact s.setMode_keeps _
  · exact .refl s

theorem State.passZeroGuard_keeps {s t : State} (h : ArbiterKeeps s t) (b : State) :
    ArbiterKeeps s (b.passZeroGuard t) := by
  rcases b.passZeroGuard_cases t with e | ⟨_, _, _, e⟩ <;> rw [e]
  · exact h
  · exact h.trans t.endGuard_keeps

theorem State.stateCheck_keeps (s : State) : ArbiterKeeps s s.stateCheck := by
  rcases s.stateCheck_cases with h | h | h <;> rw [h]
  · exact State.passZeroGuard_keeps s.preemptionCheck_keeps s
  · exact State.passZeroGuard_keeps s.displacementCheck_keeps s
  · exact .refl s

theorem State.claimArrived_keeps (s : State) (c : Client) : ArbiterKeeps s (s.claimArrived c) := by
  rcases s.claimArrived_cases c with h | h | h | h | h <;> rw [h]
  · exact State.passZeroGuard_keeps s.handOff_keeps s
  · exact .refl s
  · exact State.passZeroGuard_keeps s.displacementCheck_keeps s
  · exact State.passZeroGuard_keeps (s.turnHolding_keeps c) s
  · exact State.passZeroGuard_keeps s.preemptionCheck_keeps s

theorem State.claimsLeft_keeps (b s : State) (c : Client) : ArbiterKeeps s (b.claimsLeft s c) := by
  rcases b.claimsLeft_cases s c with h | h | h | h <;> rw [h]
  · exact State.passZeroGuard_keeps s.handOff_keeps s
  · exact State.passZeroGuard_keeps s.preemptionCheck_keeps s
  · exact State.passZeroGuard_keeps s.displacementCheck_keeps s
  · exact .refl s

theorem State.wake_keeps (s : State) (n : Nat) : ArbiterKeeps s (s.wake n) := by
  rcases s.wake_cases n with h | ⟨e, _, _, _, h⟩ <;> rw [h]
  · exact .refl s
  · refine .trans ?_ (State.claimArrived_keeps _ _)
    exact ⟨rfl, rfl, rfl, rfl, rfl, rfl, rfl, rfl, fun _ => rfl⟩

end Sys2Proof.Machine
end

