-- ==== Sys2Proof/Laws/Links.lean ====
section
/-!
SUPPORT. How a frame row runs: one lemma for each operation a frame passes through before it acts, and for the answer it
leaves.
-/

namespace Sys2Proof.Machine

/-- With RESETN high a row acts. -/
theorem State.whenRunning_high (s : State) (f : State → State) (h : s.resetn = true) :
    s.whenRunning f = .next (f s) := by simp [State.whenRunning, h]

/-- While RESETN is low a row changes nothing. -/
theorem State.whenRunning_low (s : State) (f : State → State) (h : s.resetn = false) :
    s.whenRunning f = .next s := by simp [State.whenRunning, h]

/-- Evidence of presence, as the supervisor's records after it. -/
theorem State.presence_onLink (s : State) (c : Client) (f : Link → Link) :
    (s.onLink c f).presence c =
      { s with sup := s.supAfterFrame c, links := s.links.set c (f (s.links.get c)) } := by
  unfold State.presence State.supAfterFrame
  have e : (s.onLink c f).admitted c = s.admitted c := rfl
  rw [e]
  by_cases h : s.admitted c = true
  · simp only [h, if_true]; cases c <;> rfl
  · simp only [h]; rfl

/-- A passing frame that can end acts on the state in which it has been taken. -/
theorem State.takeFrame_takes (s : State) (c : Client) (act : State → State) (h : s.takes c) :
    (s.whenRunning fun s => s.takeFrame c act) = .next (act (s.frameTaken c)) := by
  obtain ⟨h1, h2⟩ := h
  simp only [s.whenRunning_high _ h1, State.takeFrame, h2, if_true, State.presence_onLink]
  cases c <;> rfl

/-- An OPENING or ACTIVE client stays admitted by its own frame. -/
theorem State.frameTaken_admitted (s : State) (c : Client) : (s.frameTaken c).admitted c = s.admitted c := by
  by_cases h : s.admitted c = true
  · have hs : (s.frameTaken c).sup = s.sup.set c
        { state := .active
          deadline :=
            if (s.policy.clients.get c).presence = 0 then none
            else some (s.clock + BitVec.ofNat 32 ((s.policy.clients.get c).presence * 10000))
          frozen := (s.sup.get c).frozen } := by simp [State.frameTaken, State.supAfterFrame, h]
    rw [h]
    simp [State.admitted, hs]
  · have hs : (s.frameTaken c).sup = s.sup := by simp [State.frameTaken, State.supAfterFrame, h]
    simp [State.admitted, hs]

/-- A frame keeps its client's plan-freeze flag. -/
@[simp] theorem State.frameTaken_frozen (s : State) (c : Client) :
    ((s.frameTaken c).sup.get c).frozen = (s.sup.get c).frozen := by
  unfold State.frameTaken State.supAfterFrame
  split
  · simp
  · rfl

/-- A frame keeps every draft. -/
@[simp] theorem State.frameTaken_draft (s : State) (c d : Client) :
    ((s.frameTaken c).links.get d).draft = (s.links.get d).draft := by
  cases c <;> cases d <;> rfl

/-- A frame keeps every notice flag. -/
@[simp] theorem State.frameTaken_notices (s : State) (c d : Client) :
    ((s.frameTaken c).links.get d).notices = (s.links.get d).notices := by
  cases c <;> cases d <;> rfl

/-- A command that needs an admitted client acts on the state in which it has been taken. -/
theorem State.takeFrame_admits (s : State) (c : Client) (act : State → State) (h : s.admits c) :
    (s.whenRunning fun s => s.takeFrame c fun s => s.ifAdmitted c act) = .next (act (s.frameTaken c)) := by
  rw [State.takeFrame_takes _ _ _ h.1]
  simp [State.ifAdmitted, State.frameTaken_admitted, h.2]

/-- The answer left by a frame that has been taken. -/
theorem State.frameTaken_answer (s : State) (c : Client) (r : Result) (d : Value) :
    (s.frameTaken c).answer c r d = s.answered c (.answer r d) := by
  cases c <;> rfl

/-- The refusal left by a frame that has been taken. -/
theorem State.frameTaken_refuse (s : State) (c : Client) (r : Result) :
    (s.frameTaken c).refuse c r = s.answered c (.answer r 0) := State.frameTaken_answer _ _ _ _

/-- A command that DETACHED and SILENT do not admit answers STATE. -/
theorem State.takeFrame_not_admitted (s : State) (c : Client) (act : State → State) (h : s.takes c)
    (ha : s.admitted c = false) :
    (s.whenRunning fun s => s.takeFrame c fun s => s.ifAdmitted c act) =
      .next (s.answered c (.answer .state 0)) := by
  rw [State.takeFrame_takes _ _ _ h]
  simp [State.ifAdmitted, State.frameTaken_admitted, ha, State.frameTaken_refuse]

/-- A frame that has been taken leaves clock, policy and every table as they were. -/
theorem State.frameTaken_keeps (s : State) (c : Client) :
    (s.frameTaken c).resetn = s.resetn ∧ (s.frameTaken c).clock = s.clock ∧
      (s.frameTaken c).policy = s.policy ∧ (s.frameTaken c).acct = s.acct ∧
      (s.frameTaken c).flows = s.flows ∧ (s.frameTaken c).plan = s.plan ∧ (s.frameTaken c).arb = s.arb ∧
      (s.frameTaken c).live = s.live ∧ (s.frameTaken c).channel = s.channel ∧
      (s.frameTaken c).port = s.port := ⟨rfl, rfl, rfl, rfl, rfl, rfl, rfl, rfl, rfl, rfl⟩

/-- An executed platform write ends as `Port.wrote` says. -/
theorem State.finishWrite_eq (s : State) (r : PortResult) (bs : List Byte) :
    s.finishWrite r bs = { s with port := s.port.wrote r bs } := by
  have e : ∀ f : BitVec 10, f &&& ~~~(0x001#10) = f &&& 0x3FE := by
    intro f
    rfl
  simp only [State.finishWrite, Port.wrote, clearFlags, portBit]
  rfl

/-- A refused platform write ends as `Port.refused` says. -/
theorem State.refuseWrite_eq (s : State) (r : PortResult) :
    s.refuseWrite r = { s with port := s.port.refused r } := rfl

end Sys2Proof.Machine
end

