-- ==== Sys2Proof/Laws/PerInstr.lean ====
section
/-!
SUPPORT. One lemma per row: a row is brought about by a frame of a radio link or by a write of the platform port, and
never by both.
-/

namespace Sys2Proof.Laws.OneSource

/-- A row is no frame of a radio link, or no executed write of the platform port. -/
def Statement (i : Sys2Proof.Instr) : Prop :=
  Sys2Proof.encodeFrame i = none ∨ Sys2Proof.encodeWrite i = none

end Sys2Proof.Laws.OneSource

theorem Sys2Proof.Laws.OneSource.resetEnd : ∀ a,
    Sys2Proof.Laws.OneSource.Statement (.resetEnd a) := fun _ => .inl rfl

theorem Sys2Proof.Laws.OneSource.resetnLow : Sys2Proof.Laws.OneSource.Statement .resetnLow := .inl rfl

theorem Sys2Proof.Laws.OneSource.replyCapture : ∀ a,
    Sys2Proof.Laws.OneSource.Statement (.replyCapture a) := fun _ => .inl rfl

theorem Sys2Proof.Laws.OneSource.pause : ∀ a,
    Sys2Proof.Laws.OneSource.Statement (.pause a) := fun _ => .inl rfl

theorem Sys2Proof.Laws.OneSource.frameRejected : ∀ a b,
    Sys2Proof.Laws.OneSource.Statement (.frameRejected a b) := fun _ _ => .inl rfl

theorem Sys2Proof.Laws.OneSource.selectTimeout : ∀ a,
    Sys2Proof.Laws.OneSource.Statement (.selectTimeout a) := fun _ => .inl rfl

theorem Sys2Proof.Laws.OneSource.present : ∀ a b,
    Sys2Proof.Laws.OneSource.Statement (.present a b) := fun _ _ => .inr rfl

theorem Sys2Proof.Laws.OneSource.attach : ∀ a b,
    Sys2Proof.Laws.OneSource.Statement (.attach a b) := fun _ _ => .inr rfl

theorem Sys2Proof.Laws.OneSource.detach : ∀ a b,
    Sys2Proof.Laws.OneSource.Statement (.detach a b) := fun _ _ => .inr rfl

theorem Sys2Proof.Laws.OneSource.openFlow : ∀ a b,
    Sys2Proof.Laws.OneSource.Statement (.openFlow a b) := fun _ _ => .inr rfl

theorem Sys2Proof.Laws.OneSource.closeFlow : ∀ a b,
    Sys2Proof.Laws.OneSource.Statement (.closeFlow a b) := fun _ _ => .inr rfl

theorem Sys2Proof.Laws.OneSource.reclass : ∀ a b,
    Sys2Proof.Laws.OneSource.Statement (.reclass a b) := fun _ _ => .inr rfl

theorem Sys2Proof.Laws.OneSource.bindLive : ∀ a b,
    Sys2Proof.Laws.OneSource.Statement (.bindLive a b) := fun _ _ => .inr rfl

theorem Sys2Proof.Laws.OneSource.post : ∀ a b,
    Sys2Proof.Laws.OneSource.Statement (.post a b) := fun _ _ => .inr rfl

theorem Sys2Proof.Laws.OneSource.retime : ∀ a b,
    Sys2Proof.Laws.OneSource.Statement (.retime a b) := fun _ _ => .inr rfl

theorem Sys2Proof.Laws.OneSource.cancel : ∀ a b,
    Sys2Proof.Laws.OneSource.Statement (.cancel a b) := fun _ _ => .inr rfl

theorem Sys2Proof.Laws.OneSource.channelNote : ∀ a b,
    Sys2Proof.Laws.OneSource.Statement (.channelNote a b) := fun _ _ => .inr rfl

theorem Sys2Proof.Laws.OneSource.fetchTime : ∀ a b,
    Sys2Proof.Laws.OneSource.Statement (.fetchTime a b) := fun _ _ => .inr rfl

theorem Sys2Proof.Laws.OneSource.fetchStatus : ∀ a b,
    Sys2Proof.Laws.OneSource.Statement (.fetchStatus a b) := fun _ _ => .inr rfl

theorem Sys2Proof.Laws.OneSource.fetchNotes : ∀ a b,
    Sys2Proof.Laws.OneSource.Statement (.fetchNotes a b) := fun _ _ => .inr rfl

theorem Sys2Proof.Laws.OneSource.fetchAccount : ∀ a b,
    Sys2Proof.Laws.OneSource.Statement (.fetchAccount a b) := fun _ _ => .inr rfl

theorem Sys2Proof.Laws.OneSource.fetchLast : ∀ a b,
    Sys2Proof.Laws.OneSource.Statement (.fetchLast a b) := fun _ _ => .inr rfl

theorem Sys2Proof.Laws.OneSource.fetchMask : ∀ a b c,
    Sys2Proof.Laws.OneSource.Statement (.fetchMask a b c) := fun _ _ _ => .inr rfl

theorem Sys2Proof.Laws.OneSource.fetchFlow : ∀ a b,
    Sys2Proof.Laws.OneSource.Statement (.fetchFlow a b) := fun _ _ => .inr rfl

theorem Sys2Proof.Laws.OneSource.fetchFlowcount : ∀ a b,
    Sys2Proof.Laws.OneSource.Statement (.fetchFlowcount a b) := fun _ _ => .inr rfl

theorem Sys2Proof.Laws.OneSource.fetchEntry : ∀ a b,
    Sys2Proof.Laws.OneSource.Statement (.fetchEntry a b) := fun _ _ => .inr rfl

theorem Sys2Proof.Laws.OneSource.clearNotes : ∀ a b,
    Sys2Proof.Laws.OneSource.Statement (.clearNotes a b) := fun _ _ => .inr rfl

theorem Sys2Proof.Laws.OneSource.parameterFrame : ∀ a b c,
    Sys2Proof.Laws.OneSource.Statement (.parameterFrame a b c) := fun _ _ _ => .inr rfl

theorem Sys2Proof.Laws.OneSource.reservedFrame : ∀ a b c d,
    Sys2Proof.Laws.OneSource.Statement (.reservedFrame a b c d) := fun _ _ _ _ => .inr rfl

theorem Sys2Proof.Laws.OneSource.reqRise : ∀ a,
    Sys2Proof.Laws.OneSource.Statement (.reqRise a) := fun _ => .inl rfl

theorem Sys2Proof.Laws.OneSource.reqFall : ∀ a,
    Sys2Proof.Laws.OneSource.Statement (.reqFall a) := fun _ => .inl rfl

theorem Sys2Proof.Laws.OneSource.prioEdge : ∀ a b,
    Sys2Proof.Laws.OneSource.Statement (.prioEdge a b) := fun _ _ => .inl rfl

theorem Sys2Proof.Laws.OneSource.agingExpiry : ∀ a,
    Sys2Proof.Laws.OneSource.Statement (.agingExpiry a) := fun _ => .inl rfl

theorem Sys2Proof.Laws.OneSource.holdExpiry : ∀ a,
    Sys2Proof.Laws.OneSource.Statement (.holdExpiry a) := fun _ => .inl rfl

theorem Sys2Proof.Laws.OneSource.presenceExpiry : ∀ a,
    Sys2Proof.Laws.OneSource.Statement (.presenceExpiry a) := fun _ => .inl rfl

theorem Sys2Proof.Laws.OneSource.startReached : ∀ a,
    Sys2Proof.Laws.OneSource.Statement (.startReached a) := fun _ => .inl rfl

theorem Sys2Proof.Laws.OneSource.miss : ∀ a,
    Sys2Proof.Laws.OneSource.Statement (.miss a) := fun _ => .inl rfl

theorem Sys2Proof.Laws.OneSource.occurrenceEnd : ∀ a,
    Sys2Proof.Laws.OneSource.Statement (.occurrenceEnd a) := fun _ => .inl rfl

theorem Sys2Proof.Laws.OneSource.suspendedStep : ∀ a,
    Sys2Proof.Laws.OneSource.Statement (.suspendedStep a) := fun _ => .inl rfl

theorem Sys2Proof.Laws.OneSource.oneshotExpired : ∀ a,
    Sys2Proof.Laws.OneSource.Statement (.oneshotExpired a) := fun _ => .inl rfl

theorem Sys2Proof.Laws.OneSource.guardEndSettling : Sys2Proof.Laws.OneSource.Statement .guardEndSettling := .inl rfl

theorem Sys2Proof.Laws.OneSource.guardEndParking : Sys2Proof.Laws.OneSource.Statement .guardEndParking := .inl rfl

theorem Sys2Proof.Laws.OneSource.rollover : Sys2Proof.Laws.OneSource.Statement .rollover := .inl rfl

theorem Sys2Proof.Laws.OneSource.penaltyCrossing : Sys2Proof.Laws.OneSource.Statement .penaltyCrossing := .inl rfl

theorem Sys2Proof.Laws.OneSource.setClass : ∀ a b c d e,
    Sys2Proof.Laws.OneSource.Statement (.setClass a b c d e) := fun _ _ _ _ _ => .inl rfl

theorem Sys2Proof.Laws.OneSource.setClient : ∀ a b c d e,
    Sys2Proof.Laws.OneSource.Statement (.setClient a b c d e) := fun _ _ _ _ _ => .inl rfl

theorem Sys2Proof.Laws.OneSource.setWindow : ∀ a b,
    Sys2Proof.Laws.OneSource.Statement (.setWindow a b) := fun _ _ => .inl rfl

theorem Sys2Proof.Laws.OneSource.setArbiter : ∀ a b c d e,
    Sys2Proof.Laws.OneSource.Statement (.setArbiter a b c d e) := fun _ _ _ _ _ => .inl rfl

theorem Sys2Proof.Laws.OneSource.freezePlan : ∀ a b,
    Sys2Proof.Laws.OneSource.Statement (.freezePlan a b) := fun _ _ => .inl rfl

theorem Sys2Proof.Laws.OneSource.pinFlow : ∀ a b,
    Sys2Proof.Laws.OneSource.Statement (.pinFlow a b) := fun _ _ => .inl rfl

theorem Sys2Proof.Laws.OneSource.unpinFlow : ∀ a,
    Sys2Proof.Laws.OneSource.Statement (.unpinFlow a) := fun _ => .inl rfl

theorem Sys2Proof.Laws.OneSource.dropEntry : ∀ a,
    Sys2Proof.Laws.OneSource.Statement (.dropEntry a) := fun _ => .inl rfl

theorem Sys2Proof.Laws.OneSource.evict : ∀ a,
    Sys2Proof.Laws.OneSource.Statement (.evict a) := fun _ => .inl rfl

theorem Sys2Proof.Laws.OneSource.revive : ∀ a,
    Sys2Proof.Laws.OneSource.Statement (.revive a) := fun _ => .inl rfl

theorem Sys2Proof.Laws.OneSource.startSurvey : ∀ a,
    Sys2Proof.Laws.OneSource.Statement (.startSurvey a) := fun _ => .inl rfl

theorem Sys2Proof.Laws.OneSource.stopSurvey : Sys2Proof.Laws.OneSource.Statement .stopSurvey := .inl rfl

theorem Sys2Proof.Laws.OneSource.restart : Sys2Proof.Laws.OneSource.Statement .restart := .inl rfl

theorem Sys2Proof.Laws.OneSource.setAttnMask : ∀ a,
    Sys2Proof.Laws.OneSource.Statement (.setAttnMask a) := fun _ => .inl rfl

theorem Sys2Proof.Laws.OneSource.clearNotices : ∀ a,
    Sys2Proof.Laws.OneSource.Statement (.clearNotices a) := fun _ => .inl rfl

theorem Sys2Proof.Laws.OneSource.readNotices : Sys2Proof.Laws.OneSource.Statement .readNotices := .inl rfl

theorem Sys2Proof.Laws.OneSource.readClient : ∀ a,
    Sys2Proof.Laws.OneSource.Statement (.readClient a) := fun _ => .inl rfl

theorem Sys2Proof.Laws.OneSource.readAccount : ∀ a,
    Sys2Proof.Laws.OneSource.Statement (.readAccount a) := fun _ => .inl rfl

theorem Sys2Proof.Laws.OneSource.readFlow : ∀ a,
    Sys2Proof.Laws.OneSource.Statement (.readFlow a) := fun _ => .inl rfl

theorem Sys2Proof.Laws.OneSource.readEntry : ∀ a,
    Sys2Proof.Laws.OneSource.Statement (.readEntry a) := fun _ => .inl rfl

theorem Sys2Proof.Laws.OneSource.readPlanOrder : Sys2Proof.Laws.OneSource.Statement .readPlanOrder := .inl rfl

theorem Sys2Proof.Laws.OneSource.readAir : Sys2Proof.Laws.OneSource.Statement .readAir := .inl rfl

theorem Sys2Proof.Laws.OneSource.readChannel : Sys2Proof.Laws.OneSource.Statement .readChannel := .inl rfl

theorem Sys2Proof.Laws.OneSource.readSurvey : Sys2Proof.Laws.OneSource.Statement .readSurvey := .inl rfl

theorem Sys2Proof.Laws.OneSource.discardedWrite : ∀ a,
    Sys2Proof.Laws.OneSource.Statement (.discardedWrite a) := fun _ => .inl rfl

theorem Sys2Proof.Laws.OneSource.emptyWrite : Sys2Proof.Laws.OneSource.Statement .emptyWrite := .inl rfl

theorem Sys2Proof.Laws.OneSource.abortedFrameEnd : ∀ a,
    Sys2Proof.Laws.OneSource.Statement (.abortedFrameEnd a) := fun _ => .inl rfl

theorem Sys2Proof.Laws.OneSource.selRiseAfterReset : ∀ a,
    Sys2Proof.Laws.OneSource.Statement (.selRiseAfterReset a) := fun _ => .inl rfl

theorem Sys2Proof.Laws.OneSource.fetchItemAbove11 : ∀ a b c,
    Sys2Proof.Laws.OneSource.Statement (.fetchItemAbove11 a b c) := fun _ _ _ => .inr rfl
end

