-- ==== Sys2Proof/Laws/Plan.lean ====
section
/-!
SUPPORT. The words of the statements about an occurrence's end and a hold expiry, as the operations of the model that
bring them about.
-/

namespace Sys2Proof.Machine

/-- The plan after an occurrence's end is the plan with the entry of the number advanced (R73). -/
theorem State.planAfter_eq (s : State) (n : Nat) :
    s.planAfter n = onNumber n (fun x => x.advance s.clock) s.plan := rfl

/-- An advance moves the plan as `planAfter` says, and gives ENDED where the entry's last count is used (R73). -/
theorem State.advanceEntry_eq (s : State) (e : Entry) :
    s.advanceEntry e =
      ({ s with plan := s.planAfter e.number } : State).giveNoticeIf (decide (e.count = 1)) e.owner .ended := rfl

/-- The expiry of a bound live claim's hold limit, before the arbiter's answer, is `overstayed` (R120). -/
theorem State.expireHold_eq (s : State) (c : Client) (k : Nat) (h : (s.live.get c).binding = some k) :
    s.expireHold c = s.claimsLeft (s.overstayed c k) c := by
  have e : (((((s.onLive c fun l => { l with state := .spent }).onBoundFlow c Flow.overstayed).countOverstay).giveNotice
      c .overstay).setPortNotice .overstay) = s.overstayed c k := by
    unfold State.overstayed State.giveNotice
    cases c <;>
      simp_all [State.onLive, State.onBoundFlow, PerClient.get, PerClient.set, State.onFlow, State.countOverstay,
        State.setPortNotice, raise16, Config.counterMax, portBit, State.onLink] <;>
      split <;> simp_all <;> rfl
  rw [← e]
  rfl

end Sys2Proof.Machine
end

