-- ==== Sys2Proof/Tests/Slice0.lean ====
section
/-!
SUPPORT. The model's own tests: what well-formedness refuses, words decoded by hand, small tests of the rows with values
worked out in the manual, and for each statement with hypotheses a state that meets them.
-/

namespace Sys2Proof.Tests

open Sys2Proof Sys2Proof.Machine

/-! ## Well-formedness: what each check refuses (R139, R142, R147, R156) -/

theorem test_wf_short_of_no_edge : (Instr.frameRejected .nr (.short 0)).wellFormed = false := by decide
theorem test_wf_short_of_32 : (Instr.frameRejected .nr (.short 32)).wellFormed = false := by decide
theorem test_wf_long_of_32 : (Instr.frameRejected .sr (.long 32)).wellFormed = false := by decide
theorem test_wf_parity_of_odd : (Instr.frameRejected .ar (.parity 0x00000001)).wellFormed = false := by decide
theorem test_wf_parity_of_stuck : (Instr.frameRejected .ar (.parity 0)).wellFormed = false := by decide
theorem test_wf_reserved_code_12 : (Instr.reservedFrame .nr 0 12 0).wellFormed = false := by decide
theorem test_wf_reserved_kind_1 : (Instr.reservedFrame .nr 1 13 0).wellFormed = false := by decide
theorem test_wf_item_11 : (Instr.fetchItemAbove11 .sr 11 0).wellFormed = false := by decide
theorem test_wf_unknown_of_a_command : (Instr.discardedWrite (.unknown 0x0D)).wellFormed = false := by decide
theorem test_wf_length_of_unknown : (Instr.discardedWrite (.length 0x10 1 false)).wellFormed = false := by decide
theorem test_wf_length_that_fits : (Instr.discardedWrite (.length 0x03 2 false)).wellFormed = false := by decide
theorem test_wf_length_within_a_byte : (Instr.discardedWrite (.length 0x03 2 true)).wellFormed = true := by decide

/-! ## Words decoded by hand

Frames: KIND in bits 31..30, CODE in 29..25, VALUE in 24..1, odd parity in bit 0 (R142, R143). Writes: command byte, then
parameters, most significant byte first (R157). -/

theorem test_frame_present : decodeFrame .nr 32 0x00000001 = .present .nr 0 := by decide
theorem test_frame_attach : decodeFrame .sr 32 0x02000000 = .attach .sr 0 := by decide
theorem test_frame_open_flow : decodeFrame .ar 32 0x0600000B = .openFlow .ar 5 := by decide
theorem test_frame_parameter : decodeFrame .sr 32 0x440009C4 = .parameterFrame .sr 2 1250 := by decide
theorem test_frame_fetch_entry : decodeFrame .nr 32 0x16160206 = .fetchEntry .nr 0x0103 := by decide
theorem test_frame_clear_notes : decodeFrame .ar 32 0x180000FE = .clearNotes .ar 0x7F := by decide
theorem test_frame_reserved : decodeFrame .nr 32 0x80000000 = .reservedFrame .nr 2 0 0 := by decide
theorem test_frame_even : decodeFrame .nr 32 0x02000001 = .frameRejected .nr (.parity 0x02000001) := by decide
theorem test_frame_stuck : decodeFrame .nr 32 0xFFFFFFFF = .frameRejected .nr (.stuck true) := by decide
theorem test_frame_long : decodeFrame .nr 33 0x02000000 = .frameRejected .nr (.long 33) := by decide
theorem test_frame_pause : decodeFrame .nr 0 0 = .pause .nr := by decide

theorem test_write_set_class :
    decodeWrite [0x01, 1, 12, 2, 1, 0x0B, 0xB8] false = .setClass 1 12 2 1 3000 := by decide
theorem test_write_set_client :
    decodeWrite [0x02, 2, 8, 0x00, 0x80, 100, 0] false = .setClient 2 8 128 100 0 := by decide
theorem test_write_unknown : decodeWrite [0x10, 1] false = .discardedWrite (.unknown 0x10) := by decide
theorem test_write_short : decodeWrite [0x03, 79] false = .discardedWrite (.length 0x03 1 false) := by decide
theorem test_write_within_a_byte : decodeWrite [0x0D] true = .discardedWrite (.length 0x0D 0 true) := by decide
theorem test_write_within_first_byte : decodeWrite [] true = .discardedWrite .noCommand := by decide
theorem test_write_empty : decodeWrite [] false = .emptyWrite := by decide

/-! ## Small states -/

/-- The state a row answers with; the state before it where the row stops. -/
def ran (i : Instr) (s : State) : State :=
  match exec i s with
  | .next t => t
  | _ => s

/-- An ACTIVE client whose presence deadline is 2,000,000. -/
def present : Supervision := ⟨.active, some 2000000, false⟩

/-- A link with SEL high that owes the answer OK and no announcement. -/
def quiet : Link := { Link.powerOn true with reply := .answer .ok 0, announce := false }

/-- SR's voice entry of 10.1 in a state. -/
def voice (x : EntryStatus) : Entry := ⟨3, .sr, 1, 1000500, 1250, 3750, 0, 500, 342, x, none⟩

/-- The three flows of 10.1. -/
def demoFlows : List Flow :=
  [⟨0, .nr, 1, .bulk, none, 0, 0, 0, 0, 0, 0⟩, ⟨1, .sr, 2, .voice, none, 0, 0, 0, 0, 0, 0⟩,
    ⟨2, .ar, 3, .input, none, 0, 0, 0, 0, 0, 0⟩]

/-- Air time 1,000,500 of 10.1 with the air free: three ACTIVE clients, one flow each, SR's entry about to fall DUE. -/
def rest : State :=
  { State.reset with
    clock := 1000500
    acct := { State.reset.acct with windowStart := 1000000, charged := .idleTime, chargeStart := 1000000 }
    sup := .all present
    flows := demoFlows
    plan := [voice .scheduled]
    arb := ⟨.free, .nr⟩
    live := ⟨⟨.idle, some 0, false, false⟩, ⟨.idle, none, false, false⟩, ⟨.idle, some 2, false, true⟩⟩
    links := .all quiet }

/-- Air time 1,000,500 of 10.1: NR holds the air by its live claim. -/
def call : State :=
  { rest with
    acct := { rest.acct with charged := .usage .nr }
    arb := ⟨.held .nr, .nr⟩
    live := { rest.live with nr := ⟨.holding false 1000000 1010000, some 0, true, false⟩ } }

/-- The same moment with the switch settling toward SR, whose occurrence is DUE. -/
def settling : State :=
  { rest with
    acct := { rest.acct with charged := .guardTime }
    arb := ⟨.settling .sr 1000500, .sr⟩
    plan := [voice .due] }

/-- SR holds the air by its occurrence, granted at 1,000,510; the time is its end, 1,001,760. -/
def serving : State :=
  { rest with
    clock := 1001760
    acct := { rest.acct with charged := .usage .sr }
    arb := ⟨.held .sr, .sr⟩
    plan := [voice (.holding 1000510)] }

/-- A state whose NR is DETACHED and owns nothing. -/
def detached : State :=
  { rest with
    sup := { rest.sup with nr := ⟨.detached, none, false⟩ }
    flows := rest.flows.drop 1
    live := { rest.live with nr := ⟨.idle, none, false, false⟩ } }

/-- A state whose SR is SILENT with its entry suspended. -/
def silent : State :=
  { rest with
    sup := { rest.sup with sr := ⟨.silent, none, false⟩ }
    plan := [voice (.suspended false)] }

/-- Two occurrences of SR's voice flow wait; the first reaches its miss deadline. -/
def twoDue : State :=
  { settling with
    clock := 1001001
    plan := [voice .due, { voice .due with number := 4, start := 1000600 }] }

/-- The state with the client's link changed. -/
def onLink (s : State) (c : Client) (f : Link → Link) : State := s.onLink c f

/-! ## Worked values of the manual -/

/-- R60's load figures. -/
theorem test_load_figures :
    loadFigure 1250 3750 = 342 ∧ loadFigure 1000 5000 = 205 ∧ loadFigure 500 4000 = 128 ∧
      loadFigure 50 1000000 = 1 := by decide

/-- R64's worked resolutions, at t24 = 10,000,000. -/
theorem test_start_resolutions :
    resolveStart 10000000 10005000 0 0 = .at 10005000 false ∧
      resolveStart 10000000 9998000 500 3750 = .at 10001750 true ∧
      resolveStart 10000000 9998000 2000 3750 = .at 9998000 false ∧
      resolveStart 10000000 9998000 1000 0 = .late := by decide

/-- R64's resolution beyond the 24-bit wrap and of a delta of exactly 2^23. -/
theorem test_start_wraps :
    resolveStart 16770000 3000 0 0 = .at 16780216 false ∧
      resolveStart 10000000 1611392 500 1000000 = .at 10611392 true := by decide

/-- R12's and R13's example: W = 20,000, allowance 5,000. -/
theorem test_penalty :
    penaltyOf 20000 16 6900 = 7 ∧ penaltyOf 20000 16 5000 = 0 ∧ penaltyOf 20000 16 5001 = 1 ∧
      penaltyOf 20000 16 5937 = 3 ∧ penaltyOf 20000 16 5938 = 4 ∧ penaltyOf 20000 16 9375 = 15 := by decide

/-- The weights of the contest in 5.2: BULK, VOICE, INPUT and SEEK. -/
theorem test_contest_weights :
    claimWeight ClassTable.powerOn.bulk 4 true 0 = 52 ∧ claimWeight ClassTable.powerOn.voice 3 false 7 = 88 ∧
      claimWeight ClassTable.powerOn.input 0 true 7 = 66 ∧ claimWeight ClassTable.powerOn.seek 15 false 0 = 39 := by
  decide

/-- The channel counts of chapter 7's sequence of notes and guards. -/
theorem test_channel_counts :
    srUsable (computeChannel (some ⟨2437, .w20⟩) 2) = 54 ∧ arUsable (computeChannel (some ⟨2437, .w20⟩) 2) = 10 ∧
      srUsable (computeChannel (some ⟨2437, .w20⟩) 15) = 28 ∧ arUsable (computeChannel (some ⟨2437, .w20⟩) 15) = 6 ∧
      srUsable (computeChannel (some ⟨2442, .w40⟩) 15) = 20 ∧
      arUsable (computeChannel (some ⟨2442, .w40⟩) 15) = 4 := by decide

/-- The channels R133 restores for Fc 2442 stand in the table of 7.4: k 5, 75, 10 and 70 are usable again, k 11 is
not. -/
theorem test_restored_channels :
    (computeChannel (some ⟨2442, .w40⟩) 15).srRestored = 12 ∧
      [5, 75, 10, 70].all (fun k => !(computeChannel (some ⟨2442, .w40⟩) 15).srAvoided.contains k) = true ∧
      (computeChannel (some ⟨2442, .w40⟩) 15).srAvoided.contains 11 = true := by decide

/-! ## The rows -/

/-- R109: the arbiter parks at NR until air time 10. -/
theorem test_resetEnd : (ran (.resetEnd quietPins) call).arb = ⟨.parking 10, .nr⟩ := by decide
/-- R109: while RESETN is low every GNT is low. -/
theorem test_resetnLow : (ran .resetnLow call).gnt .nr = false ∧ (ran .resetnLow call).clock = 0 := by decide
/-- R147: the announcement with NOTE 0 and SR's status word: ACTIVE, one flow, one entry. -/
theorem test_replyCapture :
    (onLink rest .sr fun l => { l with announce := true }).captureReply .sr =
      frameOf 2 12 (BitVec.ofNat 24 (2 + 4096 + 65536)) := by decide
/-- R139: a pause consumes nothing. -/
theorem test_pause :
    ((ran (.pause .nr) (ran (.replyCapture .nr) rest)).links.get .nr) = quiet := by decide
/-- R141: the counter saturates at 255. -/
theorem test_frameRejected :
    ((ran (.frameRejected .nr (.short 5)) (onLink rest .nr fun l => { l with errors := 255 })).links.get
      .nr).errors = 255 := by decide
/-- R140: at the select deadline the frame is rejected and the link waits for SEL. -/
theorem test_selectTimeout :
    ((ran (.selectTimeout .nr) { ran (.replyCapture .nr) rest with clock := 1002500 }).links.get .nr).receive =
      .aborted := by decide
/-- R30: 100 × 10,000 µs from now. -/
theorem test_present : ((ran (.present .nr 0) rest).sup.get .nr).deadline = some 2000500 := by decide
/-- R25: the opening window. -/
theorem test_attach :
    (ran (.attach .nr 0) detached).sup.get .nr = ⟨.opening, some 1500500, false⟩ := by decide
/-- R36: nothing of SR is left. -/
theorem test_detach :
    (ran (.detach .sr 0) settling).plan = [] ∧ (ran (.detach .sr 0) settling).arb =
      ⟨.parking 1000510, .nr⟩ := by decide
/-- R44: the lowest free slot, class BULK from the reset draft. -/
theorem test_openFlow :
    ((ran (.openFlow .nr 9) rest).flows.map fun f => (f.slot, f.handle)) = [(0, 1), (1, 2), (2, 3), (3, 9)] := by
  decide
/-- R45: the flow's entry goes with it. -/
theorem test_closeFlow : (ran (.closeFlow .sr 2) rest).plan = [] := by decide
/-- R49: handle in bits 23..8, class code in 7..0. -/
theorem test_reclass :
    ((ran (.reclass .nr 0x000105) rest).flowAt 0).map (·.requested) = some .seek := by decide
/-- R52: VALUE 0 unbinds. -/
theorem test_bindLive : ((ran (.bindLive .nr 0) rest).live.get .nr).binding = none := by decide
/-- 10.2: the late periodic START is advanced to 33,656,982, entry 0. -/
theorem test_post :
    let s := { onLink rest .sr (fun l => { l with draft := ⟨1, 98800, 1250, 3750, 0, 500⟩ }) with
      clock := 33654432, plan := [] }
    (ran (.post .sr 2) s).plan = [⟨0, .sr, 1, 33656982, 1250, 3750, 0, 500, 342, .scheduled, none⟩] ∧
      ((ran (.post .sr 2) s).links.get .sr).reply = .answer .ok 512 := by decide
/-- 4.5: on a HOLDING entry a second RETIME replaces the first. -/
theorem test_retime :
    (ran (.retime .sr 0x031FF1) (ran (.retime .sr 0x031FF4) serving)).plan =
      [{ voice (.holding 1000510) with pendingOffset := some 0x1FF1 }] := by decide
/-- R75: CANCEL gives no notice. -/
theorem test_cancel :
    (ran (.cancel .sr 3) rest).plan = [] ∧ ((ran (.cancel .sr 3) rest).links.get .sr).notices = 0 := by decide
/-- Chapter 7: offset 37, width 20: usable counts 54 and 10. -/
theorem test_channelNote :
    ((ran (.channelNote .nr 37) rest).links.get .nr).reply = .answer .ok (BitVec.ofNat 24 (54 + 256 * 10)) ∧
      ((ran (.channelNote .nr 37) rest).links.get .sr).notices = 0x01 := by decide
/-- R3: the low 24 bits of the air time. -/
theorem test_fetchTime : ({ rest with clock := 33654432 } : State).fetchData .nr 0 0 = some 100000 := by decide
/-- R15: usage and penalty of the holder, the running charge included. -/
theorem test_fetchAccount : call.fetchData .nr 3 0 = some 500 := by decide
/-- R136: the AR mask has one part. -/
theorem test_fetchMask : rest.fetchData .nr 5 2 = some 0 ∧ rest.fetchData .nr 6 2 = none ∧
    rest.fetchData .nr 5 0 = none := by decide
/-- R145, item FLOW: slot 2, class 3, bound. -/
theorem test_fetchFlow : rest.fetchData .ar 9 3 = some (BitVec.ofNat 24 (2 + 32 * 3 + 512)) := by decide
/-- R81: the state of SR's entry, and no entry of another client. -/
theorem test_fetchEntry : settling.fetchData .sr 11 0x0103 = some 1 ∧ settling.fetchData .nr 11 0x0103 = none := by
  decide
/-- R152: the snapshot, and the flags left. -/
theorem test_clearNotes :
    let t := ran (.clearNotes .nr 0x05) (onLink rest .nr fun l => { l with notices := 0x07 })
    (t.links.get .nr).reply = .answer .ok 7 ∧ (t.links.get .nr).notices = 0x02 := by decide
/-- R149: DURATION is field 2. -/
theorem test_parameterFrame :
    ((ran (.parameterFrame .sr 2 1250) rest).links.get .sr).draft.duration = 1250 := by decide
/-- R142: RANGE in every client state. -/
theorem test_reservedFrame :
    ((ran (.reservedFrame .nr 2 0 0) detached).links.get .nr).reply = .answer .range 0 := by decide
/-- R95: from FREE with the client at the default position, a grant at once. -/
theorem test_reqRise :
    (ran (.reqRise .nr) rest).gnt .nr = true ∧
      ((ran (.reqRise .nr) rest).live.get .nr).state = .holding false 1000500 1010500 := by decide
/-- R98: the old holder at the default position, nobody waiting: FREE at once. -/
theorem test_reqFall : (ran (.reqFall .nr) call).arb = ⟨.free, .nr⟩ := by decide
/-- R113: the level alone changes. -/
theorem test_prioEdge : ((ran (.prioEdge .ar false) rest).live.get .ar) = ⟨.idle, some 2, false, false⟩ := by
  decide
/-- 10.1 at 1,001,000: NR's aging deadline; D rises, the next deadline is 1,001,500. -/
theorem test_agingExpiry :
    let s := { serving with clock := 1001000, live := { serving.live with
      nr := ⟨.waiting false 1001000, some 0, true, false⟩ } }
    ((ran (.agingExpiry .nr) s).flowAt 0).map (·.streak) = some 1 ∧
      ((ran (.agingExpiry .nr) s).live.get .nr).state = .waiting false 1001500 := by decide
/-- R120: SPENT, the overstay counted. -/
theorem test_holdExpiry :
    let t := ran (.holdExpiry .nr) { call with clock := 1010000 }
    (t.live.get .nr).state = .spent ∧ t.acct.overstays = 1 ∧ t.gnt .nr = false := by decide
/-- R31 to R33: SILENT, and the holder's GNT falls. -/
theorem test_presenceExpiry :
    let t := ran (.presenceExpiry .nr) { call with clock := 2000000 }
    (t.sup.get .nr).state = .silent ∧ t.gnt .nr = false ∧ t.port.flags = 0x003 := by decide
/-- 10.1 at 1,000,500: the voice occurrence preempts, guard to 1,000,510. -/
theorem test_startReached :
    (ran (.startReached 3) call).arb = ⟨.settling .sr 1000510, .sr⟩ ∧
      (ran (.startReached 3) call).acct.preemptions = 1 := by decide
/-- 10.1: NR's claim returns to WAITING, aging to 1,001,000, D and Cuts 1, CUT given. -/
theorem test_preemption_cut :
    let t := ran (.startReached 3) call
    (t.live.get .nr).state = .waiting false 1001000 ∧ (t.links.get .nr).notices = 0x04 ∧
      (t.flowAt 0).map (fun f => (f.streak, f.cuts)) = some (1, 1) := by decide
/-- R71: the miss deadline is nominal start + slide + 1. -/
theorem test_miss :
    let t := ran (.miss 3) { settling with clock := 1001001 }
    t.plan = [{ voice .scheduled with start := 1004250 }] ∧ t.acct.misses = 1 ∧
      (t.links.get .sr).notices = 0x08 := by decide
/-- 10.1 at 1,001,760: served, nominal start 1,004,250; the switch parks. -/
theorem test_occurrenceEnd :
    (ran (.occurrenceEnd 3) serving).plan = [{ voice .scheduled with start := 1004250 }] ∧
      (ran (.occurrenceEnd 3) serving).arb = ⟨.parking 1001770, .nr⟩ := by decide
/-- R79: one period on. -/
theorem test_suspendedStep :
    (ran (.suspendedStep 3) silent).plan = [{ voice (.suspended false) with start := 1004250 }] := by decide
/-- R79: the window of a one-shot has ended. -/
theorem test_oneshotExpired :
    let e : Entry := { voice (.suspended false) with period := 0, count := 1, load := 0 }
    (ran (.oneshotExpired 3) { silent with clock := 1001000, plan := [e] }).plan =
      [{ e with status := .suspended true }] := by decide
/-- 10.1 at 1,000,510: SR granted, its occurrence HOLDING. -/
theorem test_guardEndSettling :
    (ran .guardEndSettling settling).gnt .sr = true ∧
      (ran .guardEndSettling settling).plan = [voice (.holding 1000500)] := by decide
/-- R97: with G 0, a claim taken before the end of a longer guard settles on the running guard, whose end then
grants. -/
theorem test_kept_guard :
    let s := ran (.reqRise .nr) { rest with
      arb := ⟨.parking 1000500, .nr⟩, policy := { rest.policy with guardTime := 0 } }
    s.arb = ⟨.settling .nr 1000500, .nr⟩ ∧ (ran .guardEndSettling s).arb = ⟨.held .nr, .nr⟩ := by decide
/-- R91: with G 0 a move of the switch passes through SETTLING at one air time. -/
theorem test_zero_guard :
    (ran (.reqRise .ar) { rest with policy := { rest.policy with guardTime := 0 } }).arb = ⟨.held .ar, .ar⟩ := by
  decide
/-- R72, R73: a preemption cuts the last occurrence of an entry: the entry retires, CUT and ENDED are given. -/
theorem test_cut_retires :
    let t := State.preemptionCheck { serving with
      plan := [{ voice (.holding 1000510) with count := 1 }]
      policy := { serving.policy with classes := { serving.policy.classes with voice := ⟨0, 0, true, true, 3000⟩ } }
      live := { serving.live with ar := ⟨.waiting true 1002000, some 2, true, true⟩ } }
    t.plan = [] ∧ (t.links.get .sr).notices = 0x06 ∧ t.arb = ⟨.settling .ar 1001770, .ar⟩ := by decide
/-- R97: FREE. -/
theorem test_guardEndParking :
    (ran .guardEndParking { settling with plan := [], arb := ⟨.parking 1000500, .nr⟩ }).arb = ⟨.free, .nr⟩ := by
  decide
/-- R9: the record of a window NR held throughout. -/
theorem test_rollover :
    (ran .rollover { call with clock := 1020000 }).acct.last = ⟨20000, ⟨20000, 0, 0⟩, 0, 0, 0, 0, 0⟩ := by decide
set_option maxRecDepth 4096 in
/-- R13: 10,001 µs over NR's allowance of 10,000. -/
theorem test_penaltyCrossing :
    (ran .penaltyCrossing { call with clock := 1010001 }).acct.penalty = ⟨1, 0, 0⟩ := by decide
/-- R159: base 20 is brought to 15, CLAMPED. -/
theorem test_setClass :
    (ran (.setClass 4 20 1 2 10000) rest).policy.classes.bulk = ⟨15, 1, false, true, 10000⟩ ∧
      (ran (.setClass 4 20 1 2 10000) rest).port.lastResult = .clamped := by decide
/-- R160's first example: AR takes rank 0, NR rank 2. -/
theorem test_setClient_swaps :
    let p := (ran (.setClient 2 8 128 100 0) rest).policy.clients
    (p.nr.rank, p.sr.rank, p.ar.rank) = (2, 1, 0) := by decide
/-- R160's second example: rank 9 is brought to 2. -/
theorem test_setClient_clamps :
    let t := ran (.setClient 1 24 384 100 9) rest
    (t.policy.clients.nr.rank, t.policy.clients.sr.rank, t.port.lastResult) = (0, 2, .clamped) := by decide
/-- R161: N below 3 is brought to 3; the window starts now. -/
theorem test_setWindow :
    (ran (.setWindow 2 1) rest).window = 1000 ∧ (ran (.setWindow 2 1) rest).acct.windowStart = 1000500 := by decide
/-- R105 in FREE: the switch moves with a guard of the new G. -/
theorem test_setArbiter :
    (ran (.setArbiter 20 16 5 2 2) rest).arb = ⟨.parking 1000520, .ar⟩ ∧
      (ran (.setArbiter 20 16 5 2 2) rest).ant = 2 := by decide
/-- R38: POLICY with the change. -/
theorem test_freezePlan :
    ((ran (.freezePlan 1 1) rest).sup.get .sr).frozen = true ∧
      ((ran (.freezePlan 1 1) rest).links.get .sr).notices = 0x40 := by decide
/-- R50: a class above 5 is brought to 5. -/
theorem test_pinFlow :
    ((ran (.pinFlow 0 9) rest).flowAt 0).map effectiveClass = some .seek ∧
      (ran (.pinFlow 0 9) rest).port.lastResult = .clamped := by decide
/-- R51: a slot with no flow. -/
theorem test_unpinFlow : (ran (.unpinFlow 3) rest).port.lastResult = .range := by decide
/-- R76: ENDED to the owner. -/
theorem test_dropEntry :
    (ran (.dropEntry 3) rest).plan = [] ∧ ((ran (.dropEntry 3) rest).links.get .sr).notices = 0x02 := by decide
/-- R35: the evicted holder's GNT falls. -/
theorem test_evict : (ran (.evict 0) call).gnt .nr = false ∧
    ((ran (.evict 0) call).sup.get .nr).state = .detached := by decide
/-- R34: OPENING, RESTORED, the entry at a later start. -/
theorem test_revive :
    (ran (.revive 1) silent).plan = [{ voice .scheduled with start := 1004250 }] ∧
      ((ran (.revive 1) silent).links.get .sr).notices = 0x20 := by decide
/-- R17: K 0 is brought to 1, CLAMPED. -/
theorem test_startSurvey :
    (ran (.startSurvey 0) rest).acct.survey.state = .armed ∧ (ran (.startSurvey 0) rest).acct.survey.k = 1 ∧
      (ran (.startSurvey 0) rest).port.lastResult = .clamped := by decide
/-- R20: back to IDLE. -/
theorem test_stopSurvey : (ran .stopSurvey (ran (.startSurvey 3) rest)).acct.survey.state = .idle := by decide
/-- R108: the switch away from the default position moves back with a new guard. -/
theorem test_restart :
    (ran .restart serving).arb = ⟨.parking 1001770, .nr⟩ ∧ (ran .restart serving).flows = [] := by decide
/-- R166: a cleared mask releases ATTN. -/
theorem test_setAttnMask : State.reset.attnLow = true ∧ (ran (.setAttnMask 0) rest).attnLow = false := by decide
/-- R168: the first successful write after power-on shows RESET and clears it. -/
theorem test_clearNotices :
    (ran (.clearNotices 0) State.reset).port.readout = [0x00, 0x01] ∧
      (ran (.clearNotices 0) State.reset).port.flags = 0 := by decide
/-- R167: flags and mask. -/
theorem test_readNotices : (ran .readNotices State.reset).port.readout = [0x00, 0x01, 0x00, 0x0F] := by decide
/-- R164: NR at power-on. -/
theorem test_readClient :
    (ran (.readClient 0) State.reset).port.readout = [0, 0, 0, 0, 32, 0x02, 0x00, 100, 0, 0, 0, 0xFF] := by decide
/-- R15: NR's usage 500 and allowance 10,000. -/
theorem test_readAccount :
    (ran (.readAccount 0) call).port.readout = [0x01, 0xF4, 0, 0, 0x27, 0x10, 0, 0, 0] := by decide
/-- R56: AR's flow, bound, no entry. -/
theorem test_readFlow :
    (ran (.readFlow 2) rest).port.readout.take 8 = [2, 3, 3, 0xFF, 3, 0, 1, 0] := by decide
/-- R164: SR's entry HOLDING since 1,000,510. -/
theorem test_readEntry :
    (ran (.readEntry 3) serving).port.readout =
      [1, 1, 2, 0x0F, 0x44, 0x34, 0x04, 0xE2, 0, 0x0E, 0xA6, 0, 0, 0, 0x01, 0xF4, 0x01, 0x56, 1,
        0x0F, 0x44, 0x3E, 0, 0] := by decide
/-- R80: the count, then the numbers by start. -/
theorem test_readPlanOrder :
    (ran .readPlanOrder { rest with plan :=
      [{ voice .scheduled with number := 2, start := 1000900 }, voice .scheduled] }).port.readout = [2, 3, 2] := by
  decide
/-- R111: HELD by NR, holding weight 48, the others absent. -/
theorem test_readAir :
    (ran .readAir call).port.readout = [3, 0, 0xFF, 0, 0, 48, 0xFF, 0xFF] := by decide
/-- R137: not in band. -/
theorem test_readChannel :
    (ran .readChannel rest).port.readout = [0, 0, 2, 0, 0, 0, 0, 0, 0, 0, 0, 0, 0, 0, 0, 79, 0, 16, 0] := by decide
/-- R22: ARMED with K 3. -/
theorem test_readSurvey :
    (ran .readSurvey (ran (.startSurvey 3) rest)).port.readout.take 3 = [1, 3, 0] := by decide
/-- R156: LENGTH, and the flags kept. -/
theorem test_discardedWrite :
    (ran (.discardedWrite (.length 0x0D 1 false)) State.reset).port.lastResult = .length ∧
      (ran (.discardedWrite (.length 0x0D 1 false)) State.reset).port.flags = 0x001 := by decide
/-- R156: an empty write is not taken. -/
theorem test_emptyWrite : ran .emptyWrite rest = rest := by decide
/-- R140: the rise after an abort. -/
theorem test_abortedFrameEnd :
    ((ran (.abortedFrameEnd .nr) (onLink rest .nr fun l => { l with receive := .aborted })).links.get .nr).receive =
      .ready := by decide
/-- R138: the rise of a SEL low since reset. -/
theorem test_selRiseAfterReset :
    ((ran (.selRiseAfterReset .nr) (onLink rest .nr fun l => { l with receive := .awaitingRise })).links.get
      .nr).receive = .ready := by decide
/-- R147: an item above 11 answers RANGE at the capture. -/
theorem test_fetchItemAbove11 :
    (ran (.fetchItemAbove11 .nr 12 0) rest).captureReply .nr = replyFrame false false .range 0 := by decide

/-! ## States that meet the hypotheses of the statements

One theorem per statement of Certificates/Slice0/Obligations.lean, its clauses in order, boundary values where a clause
has a range. -/

/-- The state with an entry in place of the plan. -/
def planned (s : State) (e : Entry) : State := { s with plan := [e] }

/-- A frame in progress on NR's link, its select deadline at 1,002,500. -/
def inFrame : State := ran (.replyCapture .nr) rest

/-- A one-shot of SR. -/
def oneShot (x : EntryStatus) : Entry := { voice x with period := 0, count := 1, load := 0 }

/-- SR's draft at a voice booking, with a START and a SLIDE. -/
def booking (start slide : Value) : State :=
  onLink { rest with plan := [] } .sr fun l => { l with draft := ⟨1, start, 1250, 3750, 0, slide⟩ }

theorem witness_StepTakesTheFrontCommand :
    ({ rest with pending := [.readAir, .stopSurvey] } : State).pending = .readAir :: [.stopSurvey] := rfl

theorem witness_IdleStepTakesADueEventOrTicks :
    ({ rest with resetn := false } : State).pending = [] ∧ ({ rest with resetn := false } : State).resetn = false ∧
      ({ rest with plan := [] } : State).resetn = true ∧ ({ rest with plan := [] } : State).dueEvents = [] ∧
      rest.pending = [] ∧ rest.resetn = true ∧ rest.dueEvents ≠ [] := by decide

theorem witness_EachBlockChangesOnlyByItsRows :
    exec .readAir rest = .next (ran .readAir rest) ∧ Instr.isReset .readAir = false := ⟨rfl, rfl⟩

theorem witness_HeldInReset :
    ({ rest with resetn := false } : State).resetn = false ∧ (∀ p, Instr.readAir ≠ .resetEnd p) ∧
      Instr.readAir ≠ .resetnLow := ⟨rfl, nofun, nofun⟩

set_option maxRecDepth 4096 in
theorem witness_SelEdgesThatEndNoFrame :
    (rest.resetn = true ∧ (rest.links.get .nr).receive = .ready ∧ (rest.links.get .nr).reply ≠ .empty) ∧
      (inFrame.links.get .nr).receive =
        .inFrame 1002500 (rest.captureReply .nr) false false ∧
      ((onLink rest .nr fun l => { l with receive := .aborted }).links.get .nr).receive = .aborted ∧
      ((onLink rest .nr fun l => { l with receive := .awaitingRise }).links.get .nr).receive = .awaitingRise := by
  decide

set_option maxRecDepth 4096 in
theorem witness_DamagedFramesAreCounted :
    inFrame.takes .nr ∧ (inFrame.links.get .nr).receive = .inFrame 1002500 (rest.captureReply .nr) false false ∧
      reached ({ inFrame with clock := 1002500 } : State).clock 1002500 = true ∧
      reached ({ inFrame with clock := 1002499 } : State).clock 1002500 = false := by decide

theorem witness_CapturedReplyContents :
    ((onLink rest .nr fun l => { l with announce := true }).links.get .nr).announce = true ∧
      (rest.links.get .nr).announce = false ∧
      ((onLink rest .nr fun l => { l with reply := .frameReply }).links.get .nr).reply = .frameReply ∧
      (rest.links.get .nr).reply = .answer .ok 0 ∧
      ((ran (.fetchFlow .nr 1) rest).links.get .nr).announce = false ∧
      ((ran (.fetchFlow .nr 1) rest).links.get .nr).reply = .fetch 9 1 ∧
      ((ran (.fetchFlow .nr 1) rest).fetchData .nr 9 1).isSome = true ∧
      ((ran (.fetchFlow .nr 2) rest).links.get .nr).reply = .fetch 9 2 ∧
      (ran (.fetchFlow .nr 2) rest).fetchData .nr 9 2 = none ∧
      rest.flowNamed .nr 255 = none ∧ (rest.flowNamed .nr 1).isSome = true ∧
      rest.entryNamed .sr (BitVec.extractLsb' 0 8 (3 : BitVec 16)).toNat = some (voice .scheduled) ∧
      (3 : BitVec 16).getLsbD 8 = false ∧ 11 < (12 : BitVec 8).toNat := by decide

theorem witness_CapturedReplyContents_items :
    rest.entryNamed .sr (BitVec.extractLsb' 0 8 (0x0103 : BitVec 16)).toNat = some (voice .scheduled) ∧
      (0x0103 : BitVec 16).getLsbD 8 = true ∧
      rest.entryNamed .sr (BitVec.extractLsb' 0 8 (0x0104 : BitVec 16)).toNat = none ∧
      (rest.flowNamed .sr (BitVec.extractLsb' 0 8 (0x0402 : BitVec 16)).toNat).isSome = true ∧
      (BitVec.extractLsb' 8 8 (0x0402 : BitVec 16)).toNat = 4 ∧
      4 < (BitVec.extractLsb' 8 8 (0x0502 : BitVec 16)).toNat ∧
      rest.flowNamed .sr (BitVec.extractLsb' 0 8 (0x0003 : BitVec 16)).toNat = none ∧
      24 * (3 : Fin 4).val < 79 ∧ 16 ≤ 24 * (1 : Fin 4).val ∧ 24 * (0 : Fin 4).val < 16 ∧
      3 ≤ (3 : BitVec 16).toNat := by decide

theorem witness_ReplyAndStatusLayout : rest.flowCount .nr ≤ 12 ∧ rest.entryCount .nr ≤ 16 := by decide

theorem witness_LinksAreIndependent :
    Client.sr ≠ .nr ∧ encodeFrame (.present .nr 0) = some (.nr, 1) ∧
      exec (.present .nr 0) rest = .next (ran (.present .nr 0) rest) := ⟨nofun, by decide, rfl⟩

theorem witness_FramesAndWritesRoundTrip :
    (Instr.reservedFrame .nr 0 13 0).wellFormed = true ∧
      (encodeFrame (.reservedFrame .nr 0 13 0)).isSome = true ∧ oddParity 0x80000000 = true ∧
      encodeWrite .restart = some [0x0D] := by decide

theorem witness_PresentAndTheStateTest :
    rest.admits .nr ∧ detached.takes .nr ∧ detached.admitted .nr = false ∧ silent.takes .sr ∧
      silent.admitted .sr = false := by decide

theorem witness_DetachedClientAttaches :
    detached.takes .nr ∧ (detached.sup.get .nr).state = .detached ∧ detached.resetn = true ∧
      clientOfIndex (0 : Byte).toNat = some .nr := by decide

theorem witness_TeardownLeavesNothing :
    rest.takes .ar ∧ (rest.sup.get .ar).state ≠ .detached ∧ rest.resetn = true ∧
      clientOfIndex (2 : Byte).toNat = some .ar := by decide

theorem witness_PresenceExpirySilences :
    rest.resetn = true ∧ rest.admitted .nr = true ∧ (rest.sup.get .nr).deadline = some 2000000 ∧
      reached ({ rest with clock := 2000000 } : State).clock 2000000 = true ∧
      reached ({ rest with clock := 1999999 } : State).clock 2000000 = false ∧
      (oneShot .due).period = 0 ∧ 1000 ≤ (voice .due).period ∧ (voice .due).period ≤ 1000000 := by decide

theorem demo_entries_inRange (x : EntryStatus) : (voice x).inRange ∧ (oneShot x).inRange := by
  simp [Entry.inRange, voice, oneShot, loadFigure]

theorem demo_planOk (s : State) (e : Entry) (h : e.inRange) (hl : e.load ≤ 1024) : (planned s e).planOk := by
  refine ⟨List.pairwise_singleton _ _, ?_, ?_, ?_⟩
  · intro x hx
    cases List.mem_singleton.mp hx
    exact h
  · intro c
    exact le_trans (List.countP_le_length) (by show (1 : Nat) ≤ 16; omega)
  · show loadOf [e] ≤ 1024
    simpa [loadOf] using hl

theorem witness_ReviveRestoresThePlan :
    (silent.resetn = true ∧ clientOfIndex (1 : Byte).toNat = some .sr ∧ (silent.sup.get .sr).state = .silent ∧
      voice (.suspended false) ∈ silent.plan ∧ (voice (.suspended false)).isSuspended = true ∧
      (voice (.suspended false)).period ≠ 0) ∧ silent.planOk ∧ (planned silent (oneShot (.suspended true))).planOk ∧
      (oneShot (.suspended true)).isSuspended = true ∧ (oneShot (.suspended true)).period = 0 ∧
      (∀ c, clientOfIndex (3 : Byte).toNat = some c → (silent.sup.get c).state ≠ .silent) ∧
      (planned silent (oneShot (.suspended false))).planOk ∧
      reached 1000999 ((oneShot (.suspended false)).start + BitVec.ofNat 32 (oneShot (.suspended false)).slide) =
        false ∧
      reached 1001000 ((oneShot (.suspended false)).start + BitVec.ofNat 32 (oneShot (.suspended false)).slide) =
        true ∧
      reached 1000499 (oneShot (.suspended false)).start = false ∧
      reached 1000500 (oneShot (.suspended false)).start = true :=
  ⟨by decide, demo_planOk silent _ (demo_entries_inRange _).1 (by decide),
    demo_planOk silent _ (demo_entries_inRange _).2 (by decide), rfl, rfl, nofun,
    demo_planOk silent _ (demo_entries_inRange _).2 (by decide), by decide, by decide, by decide, by decide⟩

/-- R34: a one-shot whose window has not passed is DUE at once where its start has been reached. -/
theorem test_revive_oneShot :
    let s := planned { silent with arb := ⟨.held .ar, .ar⟩ } (oneShot (.suspended false))
    (ran (.revive 1) s).plan = [oneShot .due] ∧
      (ran (.revive 1) { s with clock := 1000499 }).plan = [oneShot .scheduled] := by decide

/-- NR with its handles 1..12 open, in slots 0..11. -/
def twelve : List Flow :=
  (List.range 12).map fun k => ⟨k, .nr, k + 1, .bulk, none, 0, 0, 0, 0, 0, 0⟩

theorem witness_OpenFlowTakesTheLowestSlot :
    (rest.admits .nr ∧ classOfCode (rest.links.get .nr).draft.flowClass.toNat = some .bulk ∧
      rest.flowNamed .nr (255 : Value).toNat = none ∧ rest.flowCount .nr < 12 ∧ rest.freeSlot = some 3) ∧
      rest.flowNamed .nr (1 : Value).toNat = some ⟨0, .nr, 1, .bulk, none, 0, 0, 0, 0, 0, 0⟩ ∧
      255 < (256 : Value).toNat ∧ (0 : Value).toNat = 0 ∧ classOfCode (6 : Value).toNat = none ∧
      12 ≤ ({ rest with flows := twelve } : State).flowCount .nr ∧
      ({ rest with flows := twelve } : State).flowNamed .nr (13 : Value).toNat = none ∧
      ({ rest with flows := (List.range 24).map fun k => ⟨k, .sr, k + 1, .bulk, none, 0, 0, 0, 0, 0, 0⟩ } :
        State).freeSlot = none := by decide

theorem witness_CloseFlowRemovesTheFlow :
    rest.admits .sr ∧ (rest.flowNamed .sr (2 : Value).toNat).isSome = true ∧ (rest.sup.get .sr).frozen = false ∧
      rest.flowClaims .sr 1 = false ∧ settling.admits .sr ∧ (settling.sup.get .sr).frozen = false ∧
      (settling.flowNamed .sr (2 : Value).toNat).map (·.slot) = some 1 ∧ settling.flowClaims .sr 1 = true ∧ rest.flowNamed .sr (9 : Value).toNat = none ∧
      (ran (.freezePlan 1 1) rest).admits .sr ∧ ((ran (.freezePlan 1 1) rest).sup.get .sr).frozen = true ∧
      0 < (ran (.freezePlan 1 1) rest).entriesOfFlow 1 := by decide

theorem witness_ReclassSetsTheRequestedClass :
    rest.admits .nr ∧ (rest.flowNamed .nr (BitVec.extractLsb' 8 16 (0x000105 : Value)).toNat).isSome = true ∧
      classOfCode (BitVec.extractLsb' 0 8 (0x000105 : Value)).toNat = some .seek ∧
      ((rest.flowNamed .nr 1).map (·.pinned)) = some none ∧ rest.arb.mode = .free ∧
      rest.liveHolding .nr = none ∧ rest.flowNamed .nr (BitVec.extractLsb' 8 16 (0x000900 : Value)).toNat = none ∧
      classOfCode (BitVec.extractLsb' 0 8 (0x000106 : Value)).toNat = none ∧
      (((ran (.pinFlow 0 5) rest).flowNamed .nr 1).map (·.pinned)) = some (some .seek) ∧
      classOfCode (BitVec.extractLsb' 0 8 (0x000104 : Value)).toNat = some .bulk ∧
      FlowClass.seek ≠ .bulk ∧ serving.arb.mode = .held .sr ∧ serving.admits .nr ∧
      serving.liveHolding .nr = none := by decide

/-- NR's live claim holds for its BULK flow; STREAM's limit of 5,000 µs is reached at 1,005,000 and not before. -/
theorem witness_ReclassSetsTheRequestedClass_holding :
    call.admits .nr ∧ (call.flowNamed .nr (BitVec.extractLsb' 8 16 (0x000102 : Value)).toNat).map
        (fun f => (f.slot, f.pinned, f.requested)) = some (0, none, .bulk) ∧
      classOfCode (BitVec.extractLsb' 0 8 (0x000102 : Value)).toNat = some .stream ∧ FlowClass.stream ≠ .bulk ∧
      (call.live.get .nr).binding = some 0 ∧ (call.live.get .nr).state = .holding false 1000000 1010000 ∧
      (call.flowAt 0).isSome = true ∧
      reached 1004999 (1000000 + BitVec.ofNat 32 (call.policy.classes.row .stream).holdLimit) = false ∧
      reached 1005000 (1000000 + BitVec.ofNat 32 (call.policy.classes.row .stream).holdLimit) = true := by decide

theorem witness_BindLiveNeedsAnIdleClaim :
    rest.admits .nr ∧ (rest.live.get .nr).state = .idle ∧ (1 : Value) ≠ 0 ∧
      (rest.flowNamed .nr (1 : Value).toNat).isSome = true ∧ rest.flowNamed .nr (2 : Value).toNat = none ∧
      call.admits .nr ∧ (call.live.get .nr).state ≠ .idle ∧
      (call.flowNamed .nr (1 : Value).toNat).isSome = true := by decide

theorem witness_PinsAndFreezes :
    rest.resetn = true ∧ (rest.flowAt (0 : Byte).toNat).isSome = true ∧
      classOfCode (min 5 (255 : Byte).toNat) = some .seek ∧ classOfCode (min 5 (0 : Byte).toNat) = some .anchor ∧
      rest.arb.mode = .free ∧ rest.liveHolding .nr = none ∧ clientOfIndex (2 : Byte).toNat = some .ar ∧
      rest.flowAt (24 : Byte).toNat = none ∧ 2 < (3 : Byte).toNat ∧
      ((rest.flowAt 0).map effectiveClass = some .bulk ∧ FlowClass.bulk ≠ .seek ∧
        ((ran (.pinFlow 0 5) rest).flowAt 0).map (fun f => (effectiveClass f, f.requested)) =
          some (.seek, .bulk)) ∧
      ((call.flowAt (0 : Byte).toNat).map (fun f => (f.owner, f.slot, effectiveClass f)) = some (.nr, 0, .bulk) ∧
        classOfCode (min 5 (2 : Byte).toNat) = some .stream ∧ (call.live.get .nr).binding = some 0 ∧
        (call.live.get .nr).state = .holding false 1000000 1010000) := by decide

theorem witness_PostCommitsTheBooking :
    (booking 1005000 500).plans .sr ∧ ((booking 1005000 500).flowNamed .sr (2 : Value).toNat).isSome = true ∧
      shapeOk (booking 1005000 500).policy.guardTime 1250 3750 0 = true ∧ (booking 1005000 500).entryCount .sr < 16 ∧
      (booking 1005000 500).freeEntry = some 0 ∧
      resolveStart 1000500 1005000 500 3750 = .at 1005000 false ∧ reached 1000500 1005000 = false ∧
      (booking 1005000 500).plannedLoad .sr + loadFigure 1250 3750 ≤
        ((booking 1005000 500).policy.clients.get .sr).cap ∧
      ((booking 1005000 500).policy.clients.get .sr).cap ≠ 0 ∧
      (booking 1005000 500).totalLoad + loadFigure 1250 3750 ≤ 1024 := by decide

theorem witness_PostRefusalsComeInOrder :
    (ran (.freezePlan 1 1) rest).admits .sr ∧ ((ran (.freezePlan 1 1) rest).sup.get .sr).frozen = true ∧
      rest.plans .sr ∧ rest.flowNamed .sr (9 : Value).toNat = none ∧
      shapeOk 10 49 0 1 = false ∧ shapeOk 10 50 0 1 = true ∧
      16 ≤ ({ rest with plan := List.replicate 16 (voice .scheduled) } : State).entryCount .sr ∧
      resolveStart 1000500 999900 500 0 = .late ∧
      (rest.policy.clients.get .sr).cap < rest.plannedLoad .sr + loadFigure 1250 3750 ∧
      rest.entryCount .sr < 16 ∧ rest.freeEntry ≠ none ∧
      resolveStart 1000500 1005000 500 3750 = .at 1005000 false ∧
      ((ran (.setClient 1 24 0 100 1) rest).policy.clients.get .sr).cap = 0 := by decide

/-- R65: under a cap of 0 not even a one-shot is admitted: LOAD, and REFUSED. -/
theorem test_post_cap_zero :
    let s := onLink (ran (.setClient 1 24 0 100 1) { rest with plan := [] }) .sr
      fun l => { l with draft := ⟨1, 1005000, 1250, 0, 1, 0⟩ }
    (ran (.post .sr 2) s).plan = [] ∧ ((ran (.post .sr 2) s).links.get .sr).reply = .answer .load 0 ∧
      (ran (.post .sr 2) s).port.flags.getLsbD 9 = true := by decide

theorem witness_PostingArithmetic :
    shapeOk 10 50 1000000 0 = true ∧ (1000000 : Nat) ≠ 0 ∧
      (10005000 + 2 ^ 24 - 10000000 % 2 ^ 24) % 2 ^ 24 < 2 ^ 23 ∧
      2 ^ 23 ≤ (9998000 + 2 ^ 24 - 10000000 % 2 ^ 24) % 2 ^ 24 ∧
      2 ^ 24 - (9998000 + 2 ^ 24 - 10000000 % 2 ^ 24) % 2 ^ 24 ≤ 2000 ∧
      1999 < 2 ^ 24 - (9998000 + 2 ^ 24 - 10000000 % 2 ^ 24) % 2 ^ 24 := by decide

theorem witness_RetimeMovesOrHoldsTheStart :
    settling.plans .sr ∧ settling.entryNamed .sr (BitVec.extractLsb' 16 8 (0x030001 : Value)).toNat =
        some (voice .due) ∧ (voice .due).status = .due ∧
      rest.entryNamed .sr (BitVec.extractLsb' 16 8 (0x030001 : Value)).toNat = some (voice .scheduled) ∧
      (voice .scheduled).status = .scheduled ∧
      reached rest.clock ((voice .scheduled).start + BitVec.signExtend 32 (1 : BitVec 13)) = false ∧
      reached rest.clock ((voice .scheduled).start + BitVec.signExtend 32 (0 : BitVec 13)) = true ∧
      (ran (.freezePlan 1 1) rest).admits .sr ∧ ((ran (.freezePlan 1 1) rest).sup.get .sr).frozen = true ∧
      rest.entryNamed .sr (BitVec.extractLsb' 16 8 (0x040000 : Value)).toNat = none ∧
      rest.plans .nr ∧ rest.entryNamed .nr (3 : Value).toNat = none := by decide

theorem witness_CancelAndDropRemoveTheEntry :
    settling.plans .sr ∧ settling.entryNamed .sr (3 : Value).toNat = some (voice .due) ∧
      rest.plans .sr ∧ rest.entryNamed .sr (3 : Value).toNat = some (voice .scheduled) ∧
      (voice .scheduled).isDue = false ∧ (voice .scheduled).isHolding = false ∧
      (voice .due).isDue = true ∧ (voice (.holding 1000510)).isHolding = true ∧ serving.plans .sr ∧
      serving.entryNamed .sr (3 : Value).toNat = some (voice (.holding 1000510)) ∧
      settling.entryAt (3 : Byte).toNat = some (voice .due) ∧
      rest.entryAt (3 : Byte).toNat = some (voice .scheduled) ∧ (rest.sup.get .sr).state ≠ .detached ∧
      rest.entryAt (32 : Byte).toNat = none := by decide

theorem witness_StartReachedFallsDue :
    rest.entryAt (3 : Fin 32).val = some (voice .scheduled) ∧ reached rest.clock (voice .scheduled).start = true ∧
      (planned settling (voice .scheduled)).arb.mode = .settling .sr 1000500 ∧
      (planned serving (voice .scheduled)).arb.mode = .held .sr ∧
      (planned serving (voice .scheduled)).waitingClaims .sr = [] ∧
      reached ({ rest with clock := 1000499 } : State).clock (voice .scheduled).start = false ∧
      rest.entryAt (31 : Fin 32).val = none ∧
      (planned serving (voice .scheduled)).plan.Pairwise (fun x y => x.number < y.number) := by decide

theorem witness_OccurrencesAreMissedOrServed :
    settling.entryAt (3 : Fin 32).val = some (voice .due) ∧
      reached 1001001 ((voice .due).start + BitVec.ofNat 32 ((voice .due).slide + 1)) = true ∧
      reached 1001000 ((voice .due).start + BitVec.ofNat 32 ((voice .due).slide + 1)) = false ∧
      (oneShot .due).count = 1 ∧ (voice .due).count ≠ 1 ∧
      serving.entryAt (3 : Fin 32).val = some (voice (.holding 1000510)) ∧
      reached serving.clock ((voice (.holding 1000510)).occurrenceEnd 1000510) = true ∧
      reached 1001759 ((voice (.holding 1000510)).occurrenceEnd 1000510) = false ∧
      reached serving.clock ((voice (.holding 1000510)).advancedStart serving.clock) = false ∧
      reached serving.clock (({ voice (.holding 1000510) with pendingOffset := some 0x1000 } : Entry).advancedStart
        serving.clock) = true ∧ serving.arb.mode = .held .sr ∧ serving.waitingClaims .nr = [] ∧
      serving.waitingClaims .ar = [] := by decide

/-- Another occurrence of the missed one's flow waits, and the flow's streak can rise. -/
theorem witness_OccurrencesAreMissedOrServed_waiting :
    twoDue.entryAt (3 : Fin 32).val = some (voice .due) ∧
      reached twoDue.clock ((voice .due).start + BitVec.ofNat 32 ((voice .due).slide + 1)) = true ∧
      twoDue.plan.Pairwise (fun x y => x.number < y.number) ∧ (twoDue.flowAt 1).map (·.streak) = some 0 ∧
      ({ twoDue with plan := twoDue.planAfter 3 } : State).flowWaits .sr 1 = true ∧
      ({ settling with plan := settling.planAfter 3 } : State).flowWaits .sr 1 = false ∧
      reached 1001001 ((voice .due).advancedStart 1001001) = false := by decide

theorem witness_SuspendedEntriesKeepStepping :
    silent.entryAt (3 : Fin 32).val = some (voice (.suspended false)) ∧
      (voice (.suspended false)).isSuspended = true ∧ (voice (.suspended false)).period ≠ 0 ∧
      reached silent.clock (voice (.suspended false)).start = true ∧
      (planned silent (oneShot (.suspended false))).entryAt (3 : Fin 32).val = some (oneShot (.suspended false)) ∧
      (oneShot (.suspended false)).period = 0 ∧
      reached 1001000 ((oneShot (.suspended false)).start + BitVec.ofNat 32 (oneShot (.suspended false)).slide) =
        true ∧
      reached 1000499 (voice (.suspended false)).start = false := by decide

theorem witness_ChannelNoteRecomputesTheMasks :
    rest.admits .nr ∧ BitVec.extractLsb' 0 8 (0x100 : Value) = 0 ∧
      (12 ≤ (BitVec.extractLsb' 0 8 (12 : Value)).toNat ∧ (BitVec.extractLsb' 0 8 (84 : Value)).toNat ≤ 84) ∧
      (BitVec.extractLsb' 0 8 (11 : Value)).toNat ≤ 11 ∧ 85 ≤ (BitVec.extractLsb' 0 8 (85 : Value)).toNat ∧
      rest.admits .ar ∧ Client.ar ≠ .nr := by decide

theorem witness_MasksLeaveTheMinimumUsable :
    2412 ≤ (⟨2412, .w40⟩ : ChannelNote).centre ∧ (⟨2484, .w20⟩ : ChannelNote).centre ≤ 2484 ∧ 15 ≤ 15 := by decide

theorem witness_FramesThatTouchOneLink :
    rest.takes .nr ∧ rest.admits .sr ∧ (5 : BitVec 5).toNat < 6 ∧ 6 ≤ (6 : BitVec 5).toNat ∧
      Instr.fetchTime .nr 0 = .fetchTime .nr 0 := by decide

theorem witness_ReqRiseMakesTheClaim :
    (rest.resetn = true ∧ (rest.live.get .sr).reqLevel = false ∧ (rest.live.get .sr).binding = none) ∧
      (rest.live.get .nr).reqLevel = false ∧ rest.admitted .nr = true ∧ (rest.live.get .nr).binding = some 0 ∧
      (rest.live.get .nr).state = .idle ∧
      ({ rest with arb := ⟨.settling .nr 1000505, .nr⟩ } : State).arb.mode = .settling .nr 1000505 := by decide

/-- The moment of 10.1's preemption: SR's occurrence DUE while NR holds. -/
def contest : State := planned call (voice .due)

/-- AR's live claim waits at 80 while the switch settles toward NR's at 48. -/
def displaced : State :=
  { rest with
    acct := { rest.acct with charged := .guardTime }
    arb := ⟨.settling .nr 1000505, .nr⟩
    live := { rest.live with
      nr := ⟨.waiting false 1000900, some 0, true, false⟩, ar := ⟨.waiting true 1000900, some 2, true, true⟩ } }

theorem witness_ReqFallReleases :
    (({ call with live := { call.live with nr := ⟨.spent, some 0, true, false⟩ } } : State).live.get .nr).state =
        .spent ∧ (call.live.get .nr).reqLevel = true ∧ call.arb.mode = .held .nr ∧
      call.liveHolding .nr ≠ none ∧ call.heldSlots .nr = [] ∧ call.dueSlots .nr = [] ∧
      (call.live.get .nr).state = .holding false 1000000 1010000 ∧
      (displaced.live.get .nr).state = .waiting false 1000900 := by decide

theorem witness_LiveClaimTimersExpire :
    ((ran (.reqRise .nr) serving).live.get .nr).state = .waiting false 1002260 ∧
      (serving.live.get .nr).binding = some 0 ∧ (serving.flowAt 0).map (·.streak) = some 0 ∧
      reached 1002260 1002260 = true ∧ reached 1002259 1002260 = false ∧
      (call.live.get .nr).state = .holding false 1000000 1010000 ∧ (call.live.get .nr).binding = some 0 ∧
      reached 1010000 1010000 = true ∧ reached 1009999 1010000 = false := by decide

theorem witness_GuardEndGrantsOrFrees :
    (settling.resetn = true ∧ settling.arb.mode = .settling .sr 1000500 ∧ reached settling.clock 1000500 = true ∧
      (({ settling with arb := ⟨.parking 1000500, .nr⟩ } : State).arb.mode = .parking 1000500) ∧
      reached 1000499 1000500 = false ∧ 1 ∈ (settling.waitingClaims .sr).map (·.1)) ∧
      settling.chargeFollows ∧ ({ settling with arb := ⟨.parking 1000500, .nr⟩ } : State).chargeFollows :=
  ⟨by decide, rfl, rfl⟩

theorem witness_HandOffFollowsTheTables :
    (∀ c, rest.waitingClaims c = []) ∧ rest.arb.position = rest.policy.defaultPos ∧
      rest.arb.mode.guardEnd = none ∧
      settling.pick (fun _ => true) = some (.sr, 96) ∧ settling.arb.position = .sr ∧
      settling.arb.mode.guardEnd = some 1000500 ∧
      ((rest.live.get .nr).reqLevel = false ∧ rest.admitted .nr = true ∧ (rest.live.get .nr).binding = some 0 ∧
        (rest.live.get .nr).state = .idle ∧ rest.policy.guardTime ≠ 0 ∧ rest.arb.mode = .free) ∧
      (call.arb.mode = .held .nr ∧ call.liveHolding .nr ≠ none ∧ call.heldSlots .nr = []) ∧
      ∀ c, call.waitingClaims c = [] := by
  refine ⟨fun c => by cases c <;> rfl, by decide, by decide, by decide, by decide, by decide, by decide, by decide,
    fun c => by cases c <;> rfl⟩

theorem demo_policy_inRange : rest.policy.inRange := by
  refine ⟨fun k => ?_, fun c => ?_, fun c d => ?_, by decide, by decide, by decide, by decide, by decide, by decide,
    by decide, by decide, by decide, by decide⟩
  · cases k <;> exact ⟨by decide, by decide, by decide, by decide⟩
  · cases c <;> decide
  · cases c <;> cases d <;> decide

theorem demo_flow_inRange : ∀ f ∈ demoFlows, f.inRange := by
  intro f hf
  simp only [demoFlows, List.mem_cons, List.not_mem_nil, or_false] at hf
  rcases hf with rfl | rfl | rfl <;>
    exact ⟨by decide, by decide, by decide, by decide, by decide, by decide, by decide, by decide, by decide⟩

theorem witness_ClaimWeightFormula :
    (rest.flowAt 0).isSome = true ∧ rest.policy.inRange ∧ ∀ f ∈ rest.flows, f.inRange :=
  ⟨rfl, demo_policy_inRange, demo_flow_inRange⟩

theorem witness_PickIsTheHeaviestClient :
    (∀ d e, (rest.policy.clients.get d).rank = (rest.policy.clients.get e).rank → d = e) ∧
      displaced.pick (fun c => c != .nr) = some (.ar, 80) := ⟨demo_policy_inRange.2.2.1, by decide⟩

theorem witness_RolloverClosesTheWindow :
    reached 1020000 (rest.acct.windowStart + BitVec.ofNat 32 ((rest.policy.windowN + 1) * 250)) = true ∧
      reached 1019999 (rest.acct.windowStart + BitVec.ofNat 32 ((rest.policy.windowN + 1) * 250)) = false ∧
      rest.acct.survey.state = .idle ∧ (ran (.startSurvey 1) rest).acct.survey.state = .armed ∧
      (∀ c, rest.waitingClaims c ≠ [] → rest.acct.penalty.get c = 0) :=
  ⟨by decide, by decide, by decide, by decide, fun c _ => by cases c <;> rfl⟩

/-- At the window's end AR waits with a penalty. -/
theorem witness_RolloverClosesTheWindow_penalised :
    let s : State := { displaced with clock := 1020000, acct := { displaced.acct with penalty := ⟨0, 0, 3⟩ } }
    s.resetn = true ∧ reached s.clock (s.acct.windowStart + BitVec.ofNat 32 ((s.policy.windowN + 1) * 250)) = true ∧
      s.waitingClaims .ar ≠ [] ∧ s.acct.penalty.get .ar ≠ 0 := by decide

/-- A survey of K windows RUNNING with none summed, at the end of a window. -/
def surveying (k : Nat) : State :=
  { rest with
    clock := 1020000
    acct := { rest.acct with survey := { rest.acct.survey with state := .running, k := k } } }

theorem witness_RolloverClosesTheWindow_surveys :
    (surveying 1).acct.survey.k ≤ (surveying 1).acct.survey.summed + 1 ∧
      (surveying 2).acct.survey.summed + 1 < (surveying 2).acct.survey.k ∧
      (surveying 2).acct.survey.state = .running := by decide

theorem witness_ReviewNoticeEveryRthRollover :
    (reached (surveying 1).clock (surveying 1).windowEnd = true ∧
      rest.policy.reviewR ≤ rest.acct.reviewCount + 1 ∧ rest.acct.reviewCount < rest.policy.reviewR ∧
      (ran (.setWindow 79 2) rest).acct.reviewCount + 1 < (ran (.setWindow 79 2) rest).policy.reviewR) ∧
      rest.policy.inRange ∧ exec .restart rest = .next (ran .restart rest) ∧
      exec (.setWindow 2 0) rest = .next (ran (.setWindow 2 0) rest) :=
  ⟨by decide, demo_policy_inRange, rfl, rfl⟩

theorem witness_StartSurveyArms :
    rest.resetn = true ∧ rest.acct.survey.state = .idle ∧ (surveying 2).acct.survey.state ≠ .idle := by decide

theorem witness_StopSurveyKeepsTheResult :
    (surveying 1).resetn = true ∧ (surveying 1).acct.survey.state ≠ .idle ∧ rest.acct.survey.state = .idle ∧
      reached (surveying 1).clock (surveying 1).windowEnd = true ∧ (surveying 1).acct.survey.state = .running ∧
      (surveying 1).acct.survey.k ≤ (surveying 1).acct.survey.summed + 1 := by decide

set_option maxRecDepth 4096 in
theorem witness_PenaltyIsTheFormulaOfUsage :
    call.chargeFollows ∧ call.penaltyFollows ∧
      (call.penaltyDue = false ∧ call.arb.mode = .held .nr ∧
        ({ call with clock := 1010001 } : State).acct.penalty.get .nr <
          ({ call with clock := 1010001 } : State).penaltyNow .nr) ∧
      ∀ d, d ≠ .nr → call.waitingClaims d = [] :=
  ⟨rfl, fun c => by cases c <;> decide, by decide, fun d _ => by cases d <;> rfl⟩

theorem witness_SetClassReplacesOneRow :
    (rest.resetn = true ∧ classOfCode (5 : Byte).toNat = some .seek ∧ rest.arb.mode = .free ∧
      5 < (6 : Byte).toNat) ∧ (∀ c, rest.liveHolding c = none) ∧
      (classOfCode (4 : Byte).toNat = some .bulk ∧ (call.live.get .nr).binding = some 0 ∧
        (call.flowAt 0).map effectiveClass = some .bulk ∧
        (call.live.get .nr).state = .holding false 1000000 1010000 ∧ call.arb.mode = .held .nr ∧
        reached call.clock (1000000 + BitVec.ofNat 32 (max 100 (min 65000 (501 : BitVec 16).toNat))) = false) ∧
      (∀ e, e ≠ .nr → call.waitingClaims e = [] ∧ call.liveHolding e = none) ∧
      reached call.clock (1000000 + BitVec.ofNat 32 (max 100 (min 65000 (500 : BitVec 16).toNat))) = true ∧
      ∀ c g, (call.live.get c).binding = some g.slot → call.flowAt g.slot = some g → effectiveClass g = .seek →
        call.liveHolding c = none := by
  refine ⟨by decide, fun c => by cases c <;> rfl, by decide,
    fun e he => by cases e <;> first | exact absurd rfl he | exact ⟨rfl, rfl⟩, by decide, fun c g hb hf he => ?_⟩
  cases c
  · have hs : g.slot = 0 := (Option.some.inj hb).symm
    rw [hs] at hf
    cases hf
    cases he
  · rfl
  · rfl

/-- R48, R119: BULK to STREAM: the hold deadline follows the new limit of 5,000 µs, and a claim that has held so long
expires at once. -/
theorem test_reclass_hold :
    ((ran (.reclass .nr 0x000102) { call with clock := 1004999 }).live.get .nr).state =
        .holding false 1000000 1005000 ∧
      ((ran (.reclass .nr 0x000102) { call with clock := 1005000 }).live.get .nr).state = .spent ∧
      (ran (.pinFlow 0 2) { call with clock := 1005000 }).acct.overstays = 1 := by decide

/-- R119: a hold limit lowered to the 500 µs NR has held expires the holding at once. -/
theorem test_setClass_expires :
    let t := ran (.setClass 4 6 1 2 500) call
    (t.live.get .nr).state = .spent ∧ t.acct.overstays = 1 ∧ t.gnt .nr = false := by decide

theorem witness_SetClientStoresThePolicy :
    rest.resetn = true ∧ clientOfIndex (0 : Byte).toNat = some .nr ∧ rest.arb.mode = .free ∧
      (rest.policy.clients.get .nr).share ≠ min 64 (65 : Byte).toNat ∧
      (rest.policy.clients.get .nr).share = min 64 (32 : Byte).toNat ∧
      (rest.policy.clients.get .nr).cap = min 1024 (512 : BitVec 16).toNat ∧
      (rest.sup.get .nr).state ≠ .detached ∧ 2 < (3 : Byte).toNat := by decide

theorem witness_SetWindowRestartsTheWindow : rest.resetn = true ∧ rest.arb.mode = .free := by decide

theorem witness_SetArbiterStoresTheSettings :
    (rest.resetn = true ∧ clientOfIndex (min 2 (255 : Byte).toNat) = some .ar ∧ rest.arb.mode = .free ∧
      Client.ar ≠ rest.policy.defaultPos ∧ Client.ar ≠ rest.arb.position ∧
      clientOfIndex (min 2 (0 : Byte).toNat) = some rest.policy.defaultPos ∧
      rest.policy.channelGuard = min 15 (2 : Byte).toNat ∧ settling.arb.mode = .settling .sr 1000500 ∧
      call.arb.mode = .held .nr) ∧ (∀ c, c ≠ .sr → settling.waitingClaims c = []) ∧
      (∀ c, c ≠ .nr → call.waitingClaims c = []) ∧ ¬ call.atRest :=
  ⟨by decide, fun c hc => by cases c <;> first | exact absurd rfl hc | rfl,
    fun c _ => by cases c <;> rfl, fun h => by rcases h with h | ⟨g, h⟩ <;> cases h⟩

/-- R134, R135: a channel guard of 4 changes SR's mask of a note at 2437, and SR is told with MASK; an unchanged one
tells nobody. -/
theorem test_setArbiter_masks :
    let s := ran (.clearNotes .ar 0x7F) (ran (.clearNotes .sr 0x7F) (ran (.channelNote .nr 37) rest))
    ((ran (.setArbiter 10 16 5 0 4) s).links.get .sr).notices = 0x01 ∧
      ((ran (.setArbiter 10 16 5 0 2) s).links.get .sr).notices = 0 := by decide

set_option maxRecDepth 4096 in
theorem witness_RestartClearsTheBlocks :
    serving.resetn = true ∧ serving.arb.position ≠ serving.policy.defaultPos ∧ serving.policy.guardTime ≠ 0 ∧
      ({ serving with policy := { serving.policy with guardTime := 0 } } : State).policy.guardTime = 0 ∧
      call.arb.position = call.policy.defaultPos ∧ call.arb.mode.guardEnd = none ∧
      State.reset.arb.position = State.reset.policy.defaultPos ∧ State.reset.arb.mode.guardEnd = some 10 ∧
      (inFrame.links.get .nr).receive = .inFrame 1002500 (rest.captureReply .nr) false false ∧
      (rest.links.get .nr).receive = .ready := by
  decide

theorem witness_AttnFollowsTheEnabledFlags :
    exec .readAir rest = .next (ran .readAir rest) ∧ (ran .readAir rest).resetn = true ∧
      (∀ w, Instr.readAir ≠ .setAttnMask w) ∧ (∀ p, Instr.readAir ≠ .resetEnd p) ∧
      exec .resetnLow rest = .next (ran .resetnLow rest) := ⟨rfl, rfl, nofun, nofun, rfl⟩

theorem witness_ReadsLeaveTheirReadouts :
    rest.resetn = true ∧ clientOfIndex (2 : Byte).toNat = some .ar ∧ (rest.flowAt (2 : Byte).toNat).isSome = true ∧
      (rest.entryAt (3 : Byte).toNat).isSome = true ∧ 2 < (3 : Byte).toNat ∧
      rest.flowAt (3 : Byte).toNat = none ∧ rest.entryAt (4 : Byte).toNat = none ∧ rest.plan.length ≤ 32 ∧
      rest.channel.note = none ∧ (ran (.channelNote .nr 84) rest).channel.note = some ⟨2484, .w20⟩ ∧
      settling.arb.mode.guardEnd = some 1000500 ∧ rest.arb.mode.guardEnd = none := by decide

theorem witness_OccurrenceOrderIsSorted : rest.plan.Pairwise (fun x y => x.number < y.number) := by decide

theorem witness_EveryStepKeepsTheAccounts :
    call.conserves ∧ call.chargeFollows ∧ call.penaltyFollows ∧
      Sys2Proof.Machine.step { call with pending := [.reqFall .nr] } = .next (ran (.reqFall .nr) call) :=
  ⟨⟨by decide, by decide, by decide, by decide⟩, rfl, fun c => by cases c <;> decide, rfl⟩

theorem demo_flowTableOk : call.flowTableOk := by
  refine ⟨by decide, demo_flow_inRange, by decide, fun c => ?_⟩
  cases c <;> decide

theorem demo_refsOk : call.refsOk := by
  refine ⟨by decide, fun c => ⟨?_, ?_⟩⟩
  · cases c <;> decide
  · intro k hk
    cases c
    · cases hk; decide
    · exact absurd hk nofun
    · cases hk; decide

/-- The same tables in the moment of the preemption. -/
theorem demo_contest : contest.flowTableOk ∧ contest.refsOk := by
  refine ⟨demo_flowTableOk, by decide, fun c => ⟨?_, ?_⟩⟩
  · cases c <;> decide
  · intro k hk
    cases c
    · cases hk; decide
    · exact absurd hk nofun
    · cases hk; decide

/-- A boundary of each clause: the departures and arrivals in SETTLING and HELD, a guard of length 0, and the preemption
of 10.1. -/
theorem witness_DisplacementAndPreemptionNeedTheMargin :
    displaced.chargeFollows ∧
      (displaced.arb.mode = .settling .nr 1000505 ∧ displaced.pick (fun c => c != .nr) = some (.ar, 80) ∧
        (displaced.waitingWeight .nr).getD 0 + displaced.policy.margin ≤ 80) ∧
      (settling.pick (fun c => c != .sr) = none ∧ call.pick (fun c => c != .nr) = none) ∧
      (contest.arb.mode = .held .nr ∧ contest.pick (fun c => c != .nr) = some (.sr, 96) ∧
        (contest.holdingWeight .nr).getD 0 + contest.policy.margin ≤ 96 ∧ contest.shielded .nr = false) ∧
      serving.shielded .sr = true ∧
      (call.holdingClaims .nr ≠ [] ∧ (ran (.reqFall .nr) call).holdingClaims .nr = [] ∧
        displaced.waitingClaims .nr ≠ [] ∧ rest.waitingClaims .nr = [] ∧
        (rest.waitingWeight .nr).getD 0 < (displaced.waitingWeight .nr).getD 0 ∧
        rest.arb.mode.holder ≠ some .nr ∧ rest.arb.mode.next ≠ some .nr) ∧
      (settling.arb.position ≠ rest.arb.position ∧ settling.arb.mode.guardEnd ≠ rest.arb.mode.guardEnd ∧
        ({ settling with policy := { settling.policy with guardTime := 0 } } : State).policy.guardTime = 0 ∧
        reached settling.clock 1000500 = true) ∧
      (contest.flowTableOk ∧ contest.refsOk) ∧ contest.policy.inRange ∧ contest.chargeFollows ∧
      contest.penaltyFollows ∧ contest.waitingClaims .nr = [] ∧
      ∀ k, 3 * ((contest.holdingClaims .nr).map (·.1)).count k < 2 * contest.policy.margin := by
  refine ⟨rfl, by decide, by decide, by decide, by decide, by decide, by decide, demo_contest, demo_policy_inRange, rfl,
    fun c => by cases c <;> decide, rfl, fun k => ?_⟩
  have h : ((contest.holdingClaims .nr).map (·.1)).count k ≤ 1 := List.count_le_length
  have hm : contest.policy.margin = 16 := rfl
  omega

theorem witness_EveryStepKeepsTheTables :
    call.flowTableOk ∧ call.planOk ∧ call.refsOk ∧
      Sys2Proof.Machine.step { call with pending := [.startReached 3] } = .next (ran (.startReached 3) call) :=
  ⟨demo_flowTableOk, demo_planOk call _ (demo_entries_inRange _).1 (by decide), demo_refsOk, rfl⟩

theorem witness_EveryStepKeepsTheBoard :
    call.flowTableOk ∧ call.planOk ∧ call.refsOk ∧ call.boardFollows := by
  refine ⟨demo_flowTableOk, demo_planOk call _ (demo_entries_inRange _).1 (by decide), demo_refsOk, ?_, ?_, ?_⟩
  · decide
  · decide
  · intro c hc
    cases c <;> first | exact absurd rfl hc | rfl

theorem witness_EveryStepKeepsWhatClientsOwn :
    detached.planOk ∧ detached.detachedOwnsNothing ∧ detached.airOnlyToPresent := by
  refine ⟨demo_planOk detached _ (demo_entries_inRange _).1 (by decide), fun c hc => ?_, fun c hc => ?_, fun c hc => ?_, fun c hc => ?_⟩
  · cases c
    · refine ⟨by decide, by decide, rfl, rfl, rfl, rfl⟩
    · exact absurd hc (by decide)
    · exact absurd hc (by decide)
  · cases c
    · exact ⟨rfl, by decide⟩
    · exact absurd hc (by decide)
    · exact absurd hc (by decide)
  · exact absurd hc (by cases c <;> decide)
  · exact absurd hc (by cases c <;> decide)

theorem witness_EveryStepKeepsPolicySwitchAndMasks :
    rest.policy.inRange ∧ call.switchFollows ∧ (ran (.channelNote .nr 84) rest).masksFollow := by
  refine ⟨demo_policy_inRange, rfl, by decide, fun n hn => ?_⟩
  cases hn
  decide

theorem witness_SwitchMovesOnlyWithGntLow :
    (exec (.startReached 3) call = .next (ran (.startReached 3) call) ∧
      exec .guardEndSettling settling = .next (ran .guardEndSettling settling)) ∧
      ((ran (.startReached 3) call).policy.guardTime ≠ 0 ∧
        (ran (.startReached 3) call).arb.position ≠ call.arb.position ∧ settling.gnt .sr = false ∧
        (ran .guardEndSettling settling).gnt .sr = true) ∧ settling.switchFollows :=
  ⟨⟨rfl, rfl⟩, by decide, rfl⟩

end Sys2Proof.Tests
end

section
/-!
# The accountant's family: what a row can write, what the arbiter's answers keep, and the accounts

Sections: the principle for everything the arbiter does, the parts of the state and the rows that write them, the
accounts under every step, and the statements about the accountant's rows.
-/

namespace Sys2Proof.Machine

/-! ## One principle for everything the arbiter does -/

/-- A relation between states that every single act of the arbiter is in: a change of mode, a move of the switch, a join,
a cut, the count of a preemption. It then holds of every answer the arbiter gives, whatever the checks decide. -/
structure ArbiterClosed (R : State → State → Prop) : Prop where
  refl : ∀ s, R s s
  trans : ∀ {s t u}, R s t → R t u → R s u
  setMode : ∀ s m, R s (s.setMode m)
  setPosition : ∀ s c, R s (s.setPosition c)
  turnHolding : ∀ s c, R s (s.turnHolding c)
  cutHoldings : ∀ s c, R s (s.cutHoldings c)
  countPreemption : ∀ s, R s s.countPreemption

namespace ArbiterClosed

variable {R : State → State → Prop} (hR : ArbiterClosed R)
include hR

theorem settleToward (s : State) (c : Client) : R s (s.settleToward c) :=
  hR.trans (hR.setMode _ _) (hR.setPosition _ _)

theorem moveToDefault (s : State) : R s s.moveToDefault :=
  hR.trans (hR.setMode _ _) (hR.setPosition _ _)

theorem grant (s : State) (c : Client) : R s (s.grant c) :=
  hR.trans (hR.setMode _ _) (hR.turnHolding _ _)

theorem park (s : State) : R s s.park := by
  rcases s.park_cases with ⟨_, _, e⟩ | ⟨g, _, _, e⟩ | ⟨_, e⟩ <;> rw [e]
  · exact hR.setMode _ _
  · exact hR.setMode _ _
  · exact hR.moveToDefault s

theorem handOff (s : State) : R s s.handOff := by
  rcases s.handOff_cases with ⟨_, e⟩ | ⟨c, w, _, ⟨_, _, e⟩ | ⟨g, _, _, e⟩ | ⟨_, e⟩⟩ <;> rw [e]
  · exact hR.park s
  · exact hR.grant s c
  · exact hR.setMode _ _
  · exact hR.settleToward s c

theorem displacementCheck (s : State) : R s s.displacementCheck := by
  rcases s.displacementCheck_cases with e | ⟨n, g, d, w, _, _, _, e⟩ <;> rw [e]
  · exact hR.refl s
  · exact hR.settleToward s d

theorem preempt (s : State) (h d : Client) : R s (s.preempt h d) := by
  have cut : R s (((s.cutHoldings h).countPreemption).settleToward d) :=
    hR.trans (hR.trans (hR.cutHoldings s h) (hR.countPreemption _)) (hR.settleToward _ d)
  unfold State.preempt
  dsimp only
  split
  · exact cut
  · exact hR.trans cut (hR.displacementCheck _)

theorem preemptionCheck (s : State) : R s s.preemptionCheck := by
  rcases s.preemptionCheck_cases with e | ⟨h, d, w, _, _, _, _, e⟩ <;> rw [e]
  · exact hR.refl s
  · exact hR.preempt s h d

theorem endGuard (s : State) : R s s.endGuard := by
  unfold State.endGuard
  split
  · exact hR.grant s _
  · exact hR.setMode _ _
  · exact hR.refl s

theorem passZeroGuard {s t : State} (h : R s t) (b : State) : R s (b.passZeroGuard t) := by
  rcases b.passZeroGuard_cases t with e | ⟨_, _, _, e⟩ <;> rw [e]
  · exact h
  · exact hR.trans h (hR.endGuard t)

theorem stateCheck (s : State) : R s s.stateCheck := by
  rcases s.stateCheck_cases with e | e | e <;> rw [e]
  · exact hR.passZeroGuard (hR.preemptionCheck s) s
  · exact hR.passZeroGuard (hR.displacementCheck s) s
  · exact hR.refl s

theorem stateCheckIf (s : State) (p : Bool) : R s (s.stateCheckIf p) := by
  cases p
  · exact hR.refl s
  · exact hR.stateCheck s

theorem claimArrived (s : State) (c : Client) : R s (s.claimArrived c) := by
  rcases s.claimArrived_cases c with e | e | e | e | e <;> rw [e]
  · exact hR.passZeroGuard (hR.handOff s) s
  · exact hR.refl s
  · exact hR.passZeroGuard (hR.displacementCheck s) s
  · exact hR.passZeroGuard (hR.turnHolding s c) s
  · exact hR.passZeroGuard (hR.preemptionCheck s) s

theorem claimsLeft (b s : State) (c : Client) : R s (b.claimsLeft s c) := by
  rcases b.claimsLeft_cases s c with e | e | e | e <;> rw [e]
  · exact hR.passZeroGuard (hR.handOff s) s
  · exact hR.passZeroGuard (hR.preemptionCheck s) s
  · exact hR.passZeroGuard (hR.displacementCheck s) s
  · exact hR.refl s

end ArbiterClosed

/-! ## One value for each client, and the lists of the tables -/

/-- What one client's replaced value agrees on with the value it replaces, every client's value agrees on. -/
theorem PerClient.map_get_set {α β : Type} (f : α → β) (p : PerClient α) (c d : Client) (x : α)
    (h : f x = f (p.get c)) : f ((p.set c x).get d) = f (p.get d) := by
  by_cases hd : d = c
  · subst hd; simpa using h
  · rw [PerClient.get_set_other _ _ _ _ hd]

/-- What identifies a flow: its slot, its owner and its handle (R42). -/
def Flow.key (f : Flow) : Nat × Client × Nat := (f.slot, f.owner, f.handle)

/-- The records of a flow table stand in strictly rising slots (R42). -/
def slotsRise (fs : List Flow) : Prop := fs.Pairwise fun f g => f.slot < g.slot

theorem slotsRise_iff_keys (fs : List Flow) : slotsRise fs ↔ (fs.map Flow.key).Pairwise fun j k => j.1 < k.1 :=
  (List.pairwise_map (f := Flow.key) (R := fun j k => j.1 < k.1)).symm

/-- The slots and handles of one owner's flows. -/
def ownedHandles (c : Client) (fs : List Flow) : List (Nat × Nat) :=
  (fs.filter (·.owner == c)).map fun f => (f.slot, f.handle)

theorem ownedHandles_eq_keys (c : Client) (fs : List Flow) :
    ownedHandles c fs = ((fs.map Flow.key).filter (·.2.1 == c)).map fun k => (k.1, k.2.2) := by
  simp only [ownedHandles, List.filter_map, List.map_map]
  rfl

/-- In a table whose slots rise, two records of one slot are the same record. -/
theorem slotsRise.eq_of_slot {fs : List Flow} (h : slotsRise fs) {f g : Flow} (hf : f ∈ fs) (hg : g ∈ fs)
    (hs : f.slot = g.slot) : f = g := by
  have nd : (fs.map Flow.slot).Nodup := (List.pairwise_map.mpr h).imp Nat.ne_of_lt
  exact List.inj_on_of_nodup_map nd hf hg hs

/-- A change that keeps every record's key keeps the table's keys. -/
theorem onSlot_keys (k : Nat) (f : Flow → Flow) (fs : List Flow) (h : ∀ x ∈ fs, x.slot = k → (f x).key = x.key) :
    (onSlot k f fs).map Flow.key = fs.map Flow.key := by
  rw [onSlot, List.map_map]
  refine List.map_congr_left fun x hx => ?_
  by_cases hk : x.slot = k
  · simp [hk, h x hx hk]
  · simp [hk]

/-- A series of changes that each keep every record's key keeps the table's keys. -/
theorem foldl_onSlot_keys (f : Flow → Flow) (h : ∀ x, (f x).key = x.key) (ks : List Nat) (fs : List Flow) :
    (ks.foldl (fun fs k => onSlot k f fs) fs).map Flow.key = fs.map Flow.key := by
  induction ks generalizing fs with
  | nil => rfl
  | cons k ks ih => rw [List.foldl_cons, ih, onSlot_keys k f fs fun x _ _ => h x]

/-- A record put into a table whose slots rise, at a slot not in use, keeps them rising. -/
theorem slotsRise_insertFlow (x : Flow) {fs : List Flow} (h : slotsRise fs) (hx : ∀ f ∈ fs, f.slot ≠ x.slot) :
    slotsRise (insertFlow x fs) := by
  have mem (y : Flow) (gs : List Flow) (hy : y ∈ insertFlow x gs) : y = x ∨ y ∈ gs := by
    induction gs with
    | nil => exact .inl (List.mem_singleton.mp hy)
    | cons g gs ih =>
      unfold insertFlow at hy
      split at hy
      · simpa using hy
      · rcases List.mem_cons.mp hy with rfl | hy
        · simp
        · rcases ih hy with rfl | hy <;> simp [*]
  induction fs with
  | nil => exact List.pairwise_singleton _ _
  | cons y ys ih =>
    obtain ⟨hy, hys⟩ := List.pairwise_cons.mp h
    have hxy : y.slot ≠ x.slot := hx y (by simp)
    unfold insertFlow
    split
    · rename_i hlt
      refine List.pairwise_cons.mpr ⟨fun z hz => ?_, h⟩
      rcases List.mem_cons.mp hz with rfl | hz
      · exact hlt
      · exact hlt.trans (hy z hz)
    · rename_i hge
      refine List.pairwise_cons.mpr ⟨fun z hz => ?_, ih hys fun f hf => hx f (by simp [hf])⟩
      rcases mem z ys hz with rfl | hz
      · omega
      · exact hy z hz

/-- A new record leaves the flows of every other owner as they were. -/
theorem ownedHandles_insertFlow (x : Flow) (fs : List Flow) {c : Client} (h : x.owner ≠ c) :
    ownedHandles c (insertFlow x fs) = ownedHandles c fs := by
  have hf : (insertFlow x fs).filter (·.owner == c) = fs.filter (·.owner == c) := by
    induction fs with
    | nil => simp [insertFlow, h]
    | cons y ys ih =>
      unfold insertFlow
      split
      · rw [List.filter_cons_of_neg (by simpa using h)]
      · rw [List.filter_cons, List.filter_cons, ih]
  rw [ownedHandles, hf, ownedHandles]

/-- Records taken away leave the flows of an owner none of whose records go. -/
theorem ownedHandles_filter (p : Flow → Bool) (fs : List Flow) {c : Client}
    (h : ∀ f ∈ fs, f.owner = c → p f = true) : ownedHandles c (fs.filter p) = ownedHandles c fs := by
  rw [ownedHandles, List.filter_filter, ownedHandles]
  congr 1
  refine List.filter_congr fun f hf => ?_
  by_cases hc : f.owner = c
  · simp [hc, h f hf hc]
  · simp [hc]

/-- A booking: what a POST fixes of an entry for its whole life (R58, R66). -/
def Entry.booking (e : Entry) : Nat × Client × Nat × Nat × Nat × Nat × Nat :=
  (e.number, e.owner, e.flow, e.duration, e.period, e.slide, e.load)

/-- Every entry of `es'` stands for a booking of `es`. -/
def bookedIn (es es' : List Entry) : Prop := ∀ x ∈ es', ∃ e ∈ es, x.booking = e.booking

theorem bookedIn_refl (es : List Entry) : bookedIn es es := fun x hx => ⟨x, hx, rfl⟩

theorem bookedIn_map (f : Entry → Entry) (h : ∀ e, (f e).booking = e.booking) (es : List Entry) :
    bookedIn es (es.map f) := by
  intro x hx
  obtain ⟨e, he, rfl⟩ := List.mem_map.mp hx
  exact ⟨e, he, h e⟩

theorem bookedIn_filterMap (f : Entry → Option Entry) (h : ∀ e x, f e = some x → x.booking = e.booking)
    (es : List Entry) : bookedIn es (es.filterMap f) := by
  intro x hx
  obtain ⟨e, he, hfx⟩ := List.mem_filterMap.mp hx
  exact ⟨e, he, h e x hfx⟩

theorem bookedIn_filter (p : Entry → Bool) (es : List Entry) : bookedIn es (es.filter p) :=
  fun x hx => ⟨x, List.mem_of_mem_filter hx, rfl⟩

theorem bookedIn_onNumber (n : Nat) (f : Entry → Option Entry) (h : ∀ e x, f e = some x → x.booking = e.booking)
    (es : List Entry) : bookedIn es (onNumber n f es) := by
  refine bookedIn_filterMap _ (fun e x hx => ?_) es
  split at hx
  · exact h e x hx
  · cases hx; rfl

theorem Entry.advance_booking (now : AirTime) (e x : Entry) (h : e.advance now = some x) : x.booking = e.booking := by
  unfold Entry.advance at h
  split at h <;> cases h
  rfl

theorem Entry.grantTo_booking (c : Client) (now : AirTime) (e : Entry) : (e.grantTo c now).booking = e.booking := by
  unfold Entry.grantTo
  split <;> rfl

theorem Entry.cutFor_booking (c : Client) (now : AirTime) (e x : Entry) (h : e.cutFor c now = some x) :
    x.booking = e.booking := by
  rw [Entry.cutFor_eq] at h
  split at h
  · split at h <;> cases h
    rfl
  · cases h; rfl

theorem Entry.suspend_booking (now : AirTime) (e : Entry) : (e.suspend now).booking = e.booking := by
  unfold Entry.suspend
  split <;> rfl

theorem Entry.revive_booking (now : AirTime) (e x : Entry) (h : e.revive now = some x) : x.booking = e.booking := by
  unfold Entry.revive at h
  split at h
  · split at h
    · split at h <;> cases h
      rfl
    · cases h; rfl
  · cases h; rfl

/-! ## The accounts under the arbiter's acts -/

/-- From `s` to `t` no microsecond is charged otherwise: the window settings N and R and every account's present value
are as they were (R5, R6). -/
def SameAccounts (s t : State) : Prop :=
  t.policy.windowN = s.policy.windowN ∧ t.policy.reviewR = s.policy.reviewR ∧
    (∀ c, t.usageNow c = s.usageNow c) ∧ t.guardNow = s.guardNow ∧ t.idleNow = s.idleNow

theorem SameAccounts.refl (s : State) : SameAccounts s s := ⟨rfl, rfl, fun _ => rfl, rfl, rfl⟩

theorem SameAccounts.trans {s t u : State} (h : SameAccounts s t) (k : SameAccounts t u) : SameAccounts s u := by
  obtain ⟨hn, hr, hu, hg, hi⟩ := h
  obtain ⟨kn, kr, ku, kg, ki⟩ := k
  exact ⟨kn.trans hn, kr.trans hr, fun c => (ku c).trans (hu c), kg.trans hg, ki.trans hi⟩

/-- The accounts, the air clock and the window start being as they were, R6 holds as it did. -/
theorem SameAccounts.conserves {s t : State} (h : SameAccounts s t) (hc : t.clock = s.clock)
    (hw : t.acct.windowStart = s.acct.windowStart) (hs : s.conserves) : t.conserves := by
  obtain ⟨hn, _, hu, hg, hi⟩ := h
  unfold State.conserves at hs ⊢
  rw [hn, hu, hu, hu, hg, hi, hc, hw]
  exact hs

/-- Under `penaltyFollows` the penalties stored at a charge's close are R12's for every client. -/
theorem State.chargedPenalty_get {s : State} (h : s.penaltyFollows) (c : Client) :
    s.chargedPenalty.get c = s.penaltyNow c := by
  have hc := h c
  unfold State.chargedPenalty
  cases hch : s.acct.charged with
  | usage d =>
    by_cases hd : c = d
    · subst hd; simp
    · rw [hch, if_neg (by simpa using Ne.symm hd)] at hc
      simpa [hd] using hc
  | guardTime => simpa [hch] using hc
  | idleTime => simpa [hch] using hc

@[simp] theorem State.setMode_penaltyNow (s : State) (m : ArbiterMode) (c : Client) :
    (s.setMode m).penaltyNow c = s.penaltyNow c := by simp [State.penaltyNow, State.window]

/-- Entering an arbiter state keeps the penalties at R12's values: the charge it closes has its own brought up first. -/
theorem State.setMode_penaltyFollows (s : State) (m : ArbiterMode) (h : s.penaltyFollows) :
    (s.setMode m).penaltyFollows := by
  by_cases ha : accountOf m = s.acct.charged
  · rw [s.setMode_same_account m ha]; exact h
  · have hp : (s.setMode m).acct.penalty = s.chargedPenalty := by simp [State.setMode, ha, State.closeCharge]
    intro c
    rw [State.setMode_penaltyNow, hp, State.chargedPenalty_get h]
    split
    · exact le_rfl
    · rfl

theorem State.setMode_sameAccounts (s : State) (m : ArbiterMode) : SameAccounts s (s.setMode m) :=
  ⟨by simp, by simp, by simp, by simp, by simp⟩

/-! ## The parts of the state, and what keeps them -/

/-- The parts of the state that the frame of a row speaks of, one by one. -/
inductive Part where
  | queue | clock | resetn | straps | policy | masks | portResult
  | draft (c : Client) | errors (c : Client) | frozen (c : Client)
  | reqLevel (c : Client) | prioLevel (c : Client) | binding (c : Client)
  | lastRecord | window | survey | flows (c : Client) | bookings
  | accounts | charge | penalties

/-- The part is kept from `s` to `t`. For the accounts' two invariants: what held of `s` holds of `t`. -/
def Part.kept (s t : State) : Part → Prop
  | .queue => t.pending = s.pending
  | .clock => t.clock = s.clock
  | .resetn => t.resetn = s.resetn
  | .straps => t.port.straps = s.port.straps
  | .policy => t.policy = s.policy
  | .masks => t.channel = s.channel
  | .portResult => t.port.lastResult = s.port.lastResult ∧ t.port.readout = s.port.readout
  | .draft c => (t.links.get c).draft = (s.links.get c).draft
  | .errors c => (t.links.get c).errors = (s.links.get c).errors
  | .frozen c => (t.sup.get c).frozen = (s.sup.get c).frozen
  | .reqLevel c => (t.live.get c).reqLevel = (s.live.get c).reqLevel
  | .prioLevel c => (t.live.get c).prioLevel = (s.live.get c).prioLevel
  | .binding c => (t.live.get c).binding = (s.live.get c).binding
  | .lastRecord => t.acct.last = s.acct.last
  | .window => t.acct.windowStart = s.acct.windowStart ∧ t.acct.reviewCount = s.acct.reviewCount
  | .survey => t.acct.survey = s.acct.survey
  | .flows c => slotsRise s.flows → slotsRise t.flows ∧ ownedHandles c t.flows = ownedHandles c s.flows
  | .bookings => bookedIn s.plan t.plan
  | .accounts => SameAccounts s t
  | .charge => s.chargeFollows → t.chargeFollows
  | .penalties => s.penaltyFollows → t.penaltyFollows

theorem Part.kept_refl (s : State) (p : Part) : p.kept s s := by
  cases p with
  | flows c => exact fun h => ⟨h, rfl⟩
  | bookings => exact bookedIn_refl _
  | accounts => exact .refl s
  | charge => exact id
  | penalties => exact id
  | portResult => exact ⟨rfl, rfl⟩
  | window => exact ⟨rfl, rfl⟩
  | _ => rfl

theorem Part.kept_trans {s t u : State} {p : Part} (h : p.kept s t) (k : p.kept t u) : p.kept s u := by
  cases p with
  | flows c => exact fun hs => ⟨(k (h hs).1).1, (k (h hs).1).2.trans (h hs).2⟩
  | bookings =>
    intro x hx
    obtain ⟨y, hy, hxy⟩ := k x hx
    obtain ⟨e, he, hye⟩ := h y hy
    exact ⟨e, he, hxy.trans hye⟩
  | accounts => exact SameAccounts.trans h k
  | charge => exact k ∘ h
  | penalties => exact k ∘ h
  | portResult => exact ⟨k.1.trans h.1, k.2.trans h.2⟩
  | window => exact ⟨k.1.trans h.1, k.2.trans h.2⟩
  | _ => exact Eq.trans k h

/-- From `s` to `t` every part but those of `W` is kept. -/
def KeepsAllBut (W : Part → Prop) (s t : State) : Prop := ∀ p, ¬ W p → p.kept s t

section Frames

variable {W : Part → Prop} {s t u : State}

theorem KeepsAllBut.refl (s : State) : KeepsAllBut W s s := fun p _ => p.kept_refl s

theorem KeepsAllBut.trans (h : KeepsAllBut W s t) (k : KeepsAllBut W t u) : KeepsAllBut W s u :=
  fun p hp => Part.kept_trans (h p hp) (k p hp)

/-! ### One rule for each field of the state -/

theorem keeps_sup {x : PerClient Supervision}
    (h : ∀ c, ¬ W (.frozen c) → (x.get c).frozen = (s.sup.get c).frozen) : KeepsAllBut W s { s with sup := x } := by
  intro p hp
  have base := p.kept_refl s
  cases p with
  | frozen c => exact h c hp
  | _ => exact base

theorem keeps_live {x : PerClient LiveClaim}
    (hr : ∀ c, ¬ W (.reqLevel c) → (x.get c).reqLevel = (s.live.get c).reqLevel)
    (hp : ∀ c, ¬ W (.prioLevel c) → (x.get c).prioLevel = (s.live.get c).prioLevel)
    (hb : ∀ c, ¬ W (.binding c) → (x.get c).binding = (s.live.get c).binding) :
    KeepsAllBut W s { s with live := x } := by
  intro p hw
  have base := p.kept_refl s
  cases p with
  | reqLevel c => exact hr c hw
  | prioLevel c => exact hp c hw
  | binding c => exact hb c hw
  | _ => exact base

theorem keeps_links {x : PerClient Link}
    (hd : ∀ c, ¬ W (.draft c) → (x.get c).draft = (s.links.get c).draft)
    (he : ∀ c, ¬ W (.errors c) → (x.get c).errors = (s.links.get c).errors) :
    KeepsAllBut W s { s with links := x } := by
  intro p hw
  have base := p.kept_refl s
  cases p with
  | draft c => exact hd c hw
  | errors c => exact he c hw
  | _ => exact base

theorem keeps_flows {x : List Flow}
    (h : ∀ c, ¬ W (.flows c) → slotsRise s.flows → slotsRise x ∧ ownedHandles c x = ownedHandles c s.flows) :
    KeepsAllBut W s { s with flows := x } := by
  intro p hw
  have base := p.kept_refl s
  cases p with
  | flows c => exact h c hw
  | _ => exact base

/-- A table with the same keys is the same table for the frame. -/
theorem keeps_flows_of_keys {x : List Flow} (h : slotsRise s.flows → x.map Flow.key = s.flows.map Flow.key) :
    KeepsAllBut W s { s with flows := x } :=
  keeps_flows fun c _ hs => by
    rw [slotsRise_iff_keys, ownedHandles_eq_keys, ownedHandles_eq_keys, h hs, ← slotsRise_iff_keys]
    exact ⟨hs, rfl⟩

theorem keeps_plan {x : List Entry} (h : ¬ W .bookings → bookedIn s.plan x) : KeepsAllBut W s { s with plan := x } := by
  intro p hw
  have base := p.kept_refl s
  cases p with
  | bookings => exact h hw
  | _ => exact base

theorem keeps_port {x : Port} (hs : x.straps = s.port.straps)
    (h : ¬ W .portResult → x.lastResult = s.port.lastResult ∧ x.readout = s.port.readout) :
    KeepsAllBut W s { s with port := x } := by
  intro p hw
  have base := p.kept_refl s
  cases p with
  | straps => exact hs
  | portResult => exact h hw
  | _ => exact base

theorem keeps_channel {x : ChannelUnit} (h : ¬ W .masks → x = s.channel) :
    KeepsAllBut W s { s with channel := x } := by
  intro p hw
  have base := p.kept_refl s
  cases p with
  | masks => exact h hw
  | _ => exact base

theorem keeps_freeIndex (k : Nat) : KeepsAllBut W s { s with freeIndex := k } := by
  intro p _
  have base := p.kept_refl s
  cases p <;> exact base

/-- The three event counts of the window are no part of the frame. -/
theorem keeps_counts (p m o : Nat) :
    KeepsAllBut W s { s with acct := { s.acct with preemptions := p, misses := m, overstays := o } } := by
  intro q _
  have base := q.kept_refl s
  cases q <;> exact base

theorem keeps_survey (v : Survey) (h : W .survey) : KeepsAllBut W s { s with acct := { s.acct with survey := v } } := by
  intro p hw
  have base := p.kept_refl s
  cases p with
  | survey => exact absurd h hw
  | _ => exact base

end Frames

end Sys2Proof.Machine
end


section
namespace Sys2Proof.Machine

/-! ## What the shared operations keep

Each lemma is for every `W`: the operation writes no part of the frame, or only the part its hypothesis names. -/

section Operations

variable {W : Part → Prop} {s t u : State}

/-! ### Records of one client -/

theorem keeps_onSup (c : Client) (f : Supervision → Supervision) (h : ∀ v, (f v).frozen = v.frozen) :
    KeepsAllBut W s (s.onSup c f) :=
  keeps_sup fun d _ => PerClient.map_get_set Supervision.frozen _ c d _ (h _)

theorem keeps_onLive (c : Client) (f : LiveClaim → LiveClaim)
    (h : ∀ l, (f l).reqLevel = l.reqLevel ∧ (f l).prioLevel = l.prioLevel ∧ (f l).binding = l.binding) :
    KeepsAllBut W s (s.onLive c f) :=
  keeps_live (fun d _ => PerClient.map_get_set LiveClaim.reqLevel _ c d _ (h _).1)
    (fun d _ => PerClient.map_get_set LiveClaim.prioLevel _ c d _ (h _).2.1)
    fun d _ => PerClient.map_get_set LiveClaim.binding _ c d _ (h _).2.2

theorem keeps_onLink (c : Client) (f : Link → Link) (h : ∀ l, (f l).draft = l.draft ∧ (f l).errors = l.errors) :
    KeepsAllBut W s (s.onLink c f) :=
  keeps_links (fun d _ => PerClient.map_get_set Link.draft _ c d _ (h _).1)
    fun d _ => PerClient.map_get_set Link.errors _ c d _ (h _).2

/-- A change of one client's live claim that may write the parts of that client alone. -/
theorem keeps_onLive_writing (c : Client) (f : LiveClaim → LiveClaim)
    (hr : W (.reqLevel c) ∨ ∀ l, (f l).reqLevel = l.reqLevel)
    (hp : W (.prioLevel c) ∨ ∀ l, (f l).prioLevel = l.prioLevel)
    (hb : W (.binding c) ∨ ∀ l, (f l).binding = l.binding) : KeepsAllBut W s (s.onLive c f) := by
  refine keeps_live (fun d hd => ?_) (fun d hd => ?_) fun d hd => ?_ <;> by_cases hc : d = c
  · subst hc; simpa using (hr.resolve_left hd) _
  · simp [hc]
  · subst hc; simpa using (hp.resolve_left hd) _
  · simp [hc]
  · subst hc; simpa using (hb.resolve_left hd) _
  · simp [hc]

/-- A change of one client's link that may write its draft or its link-error counter. -/
theorem keeps_onLink_writing (c : Client) (f : Link → Link) (hd : W (.draft c) ∨ ∀ l, (f l).draft = l.draft)
    (he : W (.errors c) ∨ ∀ l, (f l).errors = l.errors) : KeepsAllBut W s (s.onLink c f) := by
  refine keeps_links (fun d hw => ?_) fun d hw => ?_ <;> by_cases hc : d = c
  · subst hc; simpa using (hd.resolve_left hw) _
  · simp [hc]
  · subst hc; simpa using (he.resolve_left hw) _
  · simp [hc]

theorem keeps_giveNotice (c : Client) (n : Notice) : KeepsAllBut W s (s.giveNotice c n) := by
  unfold State.giveNotice
  split
  · exact .refl s
  · exact keeps_onLink c _ fun _ => ⟨rfl, rfl⟩

theorem keeps_giveNoticeIf (p : Bool) (c : Client) (n : Notice) : KeepsAllBut W s (s.giveNoticeIf p c n) := by
  cases p
  · exact .refl s
  · exact keeps_giveNotice c n

theorem keeps_setPortNotice (n : PortNotice) : KeepsAllBut W s (s.setPortNotice n) :=
  keeps_port rfl fun _ => ⟨rfl, rfl⟩

theorem keeps_answer (c : Client) (r : Result) (d : Value) : KeepsAllBut W s (s.answer c r d) :=
  keeps_onLink c _ fun _ => ⟨rfl, rfl⟩

theorem keeps_refuse (c : Client) (r : Result) : KeepsAllBut W s (s.refuse c r) := keeps_answer c r 0

theorem keeps_presence (c : Client) : KeepsAllBut W s (s.presence c) := by
  unfold State.presence
  split
  · exact keeps_onSup c _ fun _ => rfl
  · exact .refl s

/-! ### Tables -/

theorem keeps_onFlow (k : Nat) (f : Flow → Flow) (h : ∀ x, (f x).key = x.key) : KeepsAllBut W s (s.onFlow k f) :=
  keeps_flows_of_keys fun _ => onSlot_keys k f s.flows fun x _ _ => h x

theorem keeps_onBoundFlow (c : Client) (f : Flow → Flow) (h : ∀ x, (f x).key = x.key) :
    KeepsAllBut W s (s.onBoundFlow c f) := by
  unfold State.onBoundFlow
  split
  · exact .refl s
  · exact keeps_onFlow _ f h

theorem keeps_onEntry (n : Nat) (f : Entry → Option Entry) (h : ∀ e x, f e = some x → x.booking = e.booking) :
    KeepsAllBut W s (s.onEntry n f) := keeps_plan fun _ => bookedIn_onNumber n f h s.plan

/-! ### The arbiter -/

theorem keeps_setMode (m : ArbiterMode) : KeepsAllBut W s (s.setMode m) := by
  intro p _
  have hw := s.setMode_window m
  cases p with
  | flows c => exact fun h => by simpa using h
  | bookings => simpa [Part.kept] using bookedIn_refl s.plan
  | accounts => exact s.setMode_sameAccounts m
  | charge => exact fun _ => by simp [State.chargeFollows]
  | penalties => exact s.setMode_penaltyFollows m
  | lastRecord => exact hw.2.2.2.2.1
  | window => exact ⟨hw.1, hw.2.2.2.2.2.1⟩
  | survey => exact hw.2.2.2.2.2.2
  | _ => simp [Part.kept]

theorem keeps_setPosition (c : Client) : KeepsAllBut W s (s.setPosition c) := by
  intro p _
  have base := p.kept_refl s
  cases p <;> exact base

theorem State.grantLive_keeps (s : State) (l : LiveClaim) :
    (s.grantLive l).reqLevel = l.reqLevel ∧ (s.grantLive l).prioLevel = l.prioLevel ∧
      (s.grantLive l).binding = l.binding := by
  unfold State.grantLive
  split <;> exact ⟨rfl, rfl, rfl⟩

theorem State.cutLive_keeps (s : State) (l : LiveClaim) :
    (s.cutLive l).reqLevel = l.reqLevel ∧ (s.cutLive l).prioLevel = l.prioLevel ∧
      (s.cutLive l).binding = l.binding := by
  unfold State.cutLive
  split <;> exact ⟨rfl, rfl, rfl⟩

theorem keeps_turnHolding (c : Client) : KeepsAllBut W s (s.turnHolding c) := by
  have flows : KeepsAllBut W s { s with
      flows := (s.waitingSlots c).foldl (fun fs k => onSlot k Flow.won fs) s.flows } :=
    keeps_flows_of_keys fun _ => foldl_onSlot_keys Flow.won (fun _ => rfl) _ _
  refine (flows.trans (keeps_plan (x := s.plan.map (Entry.grantTo c s.clock)) fun _ => ?_)).trans
    (keeps_onLive c (fun l => s.grantLive l) s.grantLive_keeps)
  exact bookedIn_map _ (Entry.grantTo_booking c s.clock) _

theorem keeps_cutHoldings (c : Client) : KeepsAllBut W s (s.cutHoldings c) := by
  have flows : KeepsAllBut W s { s with
      flows := ((s.holdingClaims c).map (·.1)).foldl (fun fs k => onSlot k Flow.cut fs) s.flows } :=
    keeps_flows_of_keys fun _ => foldl_onSlot_keys Flow.cut (fun _ => rfl) _ _
  refine (((flows.trans (keeps_plan (x := s.plan.filterMap (Entry.cutFor c s.clock)) fun _ => ?_)).trans
    (keeps_onLive c (fun l => s.cutLive l) s.cutLive_keeps)).trans (keeps_giveNotice c .cut)).trans
    (keeps_giveNoticeIf _ c .ended)
  exact bookedIn_filterMap _ (Entry.cutFor_booking c s.clock) _

/-- Whatever the arbiter does writes no part of the frame. -/
theorem arbiterClosed_keepsAllBut (W : Part → Prop) : ArbiterClosed (KeepsAllBut W) where
  refl := .refl
  trans := .trans
  setMode _ m := keeps_setMode m
  setPosition _ c := keeps_setPosition c
  turnHolding _ c := keeps_turnHolding c
  cutHoldings _ c := keeps_cutHoldings c
  countPreemption _ := keeps_counts _ _ _

theorem keeps_stateCheck : KeepsAllBut W s s.stateCheck := (arbiterClosed_keepsAllBut W).stateCheck s

theorem keeps_stateCheckIf (p : Bool) : KeepsAllBut W s (s.stateCheckIf p) :=
  (arbiterClosed_keepsAllBut W).stateCheckIf s p

theorem keeps_claimArrived (c : Client) : KeepsAllBut W s (s.claimArrived c) :=
  (arbiterClosed_keepsAllBut W).claimArrived s c

theorem keeps_claimsLeft (b : State) (c : Client) : KeepsAllBut W s (b.claimsLeft s c) :=
  (arbiterClosed_keepsAllBut W).claimsLeft b s c

/-! ### Entries that fall due, leave or advance -/

theorem keeps_wake (n : Nat) : KeepsAllBut W s (s.wake n) := by
  rcases s.wake_cases n with e | ⟨e, _, _, _, h⟩
  · rw [e]; exact .refl s
  · rw [h]
    exact (keeps_onEntry n _ fun e x hx => by cases hx; rfl).trans (keeps_claimArrived _)

theorem keeps_wakeAll (ns : List Nat) : KeepsAllBut W s (s.wakeAll ns) := by
  induction ns generalizing s with
  | nil => exact .refl s
  | cons n ns ih => exact (keeps_wake n).trans ih

theorem keeps_removeEntry (e : Entry) (ended : Bool) : KeepsAllBut W s (s.removeEntry e ended) := by
  have gone : KeepsAllBut W s ((s.onEntry e.number fun _ => none).giveNoticeIf ended e.owner .ended) :=
    (keeps_onEntry _ _ fun _ _ h => by cases h).trans (keeps_giveNoticeIf _ _ _)
  unfold State.removeEntry State.afterRemoval
  split
  · exact gone.trans (keeps_claimsLeft _ _)
  · exact gone

theorem keeps_advanceEntry (e : Entry) : KeepsAllBut W s (s.advanceEntry e) :=
  (keeps_onEntry _ _ (Entry.advance_booking s.clock)).trans (keeps_giveNoticeIf _ _ _)

/-! ### Live claims and classes -/

theorem keeps_countOverstay : KeepsAllBut W s s.countOverstay := keeps_counts _ _ _

theorem keeps_countMiss : KeepsAllBut W s s.countMiss := keeps_counts _ _ _

theorem keeps_expireHold (c : Client) : KeepsAllBut W s (s.expireHold c) := by
  unfold State.expireHold
  refine .trans ?_ (keeps_claimsLeft _ c)
  refine .trans ?_ (keeps_setPortNotice _)
  refine .trans ?_ (keeps_giveNotice c _)
  refine .trans ?_ keeps_countOverstay
  refine .trans ?_ (keeps_onBoundFlow c _ fun _ => rfl)
  exact keeps_onLive c _ fun _ => ⟨rfl, rfl, rfl⟩

theorem keeps_refreshHold (c : Client) : KeepsAllBut W s (s.refreshHold c) := by
  unfold State.refreshHold
  split
  · dsimp only
    split
    · refine .trans ?_ (keeps_expireHold c)
      exact keeps_onLive c _ fun _ => ⟨rfl, rfl, rfl⟩
    · exact keeps_onLive c _ fun _ => ⟨rfl, rfl, rfl⟩
  · exact .refl s

theorem keeps_refreshHoldOfClass (k : FlowClass) (c : Client) : KeepsAllBut W s (s.refreshHoldOfClass k c) := by
  unfold State.refreshHoldOfClass
  split
  · exact .refl s
  · split
    · exact .refl s
    · split
      · exact keeps_refreshHold c
      · exact .refl s

theorem keeps_refreshHolds (k : FlowClass) : KeepsAllBut W s (s.refreshHolds k) :=
  ((keeps_refreshHoldOfClass k .nr).trans (keeps_refreshHoldOfClass k .sr)).trans
    (keeps_refreshHoldOfClass k .ar)

theorem keeps_classChanged (f : Flow) : KeepsAllBut W s (s.classChanged f) := by
  unfold State.classChanged
  split
  · exact (keeps_refreshHold _).trans keeps_stateCheck
  · exact keeps_stateCheck

/-- A record replaced by one of the same key is the same flow for the frame: slots rise, so no other record stands in
its slot. -/
theorem keeps_reclassed {f g : Flow} (hf : f ∈ s.flows) (hg : g.key = f.key) :
    KeepsAllBut W s (s.reclassed f g) := by
  have record : KeepsAllBut W s (s.onFlow f.slot fun _ => g) :=
    keeps_flows_of_keys fun hs => onSlot_keys _ _ _ fun x hx hk => by
      rw [slotsRise.eq_of_slot hs hx hf hk, hg]
  unfold State.reclassed
  split
  · exact record
  · exact record.trans (keeps_classChanged f)

theorem keeps_setPin {f : Flow} (p : Option FlowClass) (hf : f ∈ s.flows) : KeepsAllBut W s (s.setPin f p) := by
  unfold State.setPin
  split
  · exact .refl s
  · exact (keeps_giveNotice f.owner .policy).trans (keeps_reclassed (by simpa using hf) rfl)

/-! ### Clients -/

theorem keeps_silence (c : Client) : KeepsAllBut W s (s.silence c) := by
  unfold State.silence
  dsimp only
  refine .trans ?_ (keeps_claimsLeft _ c)
  refine .trans (t := ((s.onSup c fun v => { v with state := .silent, deadline := none }).onLive c
    LiveClaim.toIdle).setPortNotice (.silent c)) ?_ (keeps_plan fun _ => bookedIn_map _ (fun e => ?_) _)
  · refine .trans ?_ (keeps_setPortNotice _)
    refine .trans ?_ (keeps_onLive c _ fun _ => ⟨rfl, rfl, rfl⟩)
    exact keeps_onSup c _ fun _ => rfl
  · split
    · exact Entry.suspend_booking _ e
    · rfl

theorem keeps_reviveClient (c : Client) : KeepsAllBut W s (s.reviveClient c) := by
  unfold State.reviveClient
  dsimp only
  refine .trans ?_ (keeps_wakeAll _)
  refine .trans ?_ (keeps_giveNotice c .restored)
  refine .trans ?_ (keeps_giveNoticeIf _ c .ended)
  refine .trans (t := s.onSup c fun v => { v with state := .opening, deadline := s.openingDeadline c }) ?_
    (keeps_plan fun _ => bookedIn_filterMap _ (fun e x hx => ?_) _)
  · exact keeps_onSup c _ fun _ => rfl
  · split at hx
    · exact Entry.revive_booking s.clock e x hx
    · cases hx; rfl

theorem keeps_enterOpening (c : Client) : KeepsAllBut W s (s.enterOpening c) := keeps_onSup c _ fun _ => rfl

theorem keeps_presenceChanged (c : Client) (old : Nat) : KeepsAllBut W s (s.presenceChanged c old) := by
  unfold State.presenceChanged
  split
  · exact .refl s
  · split
    · exact keeps_onSup c _ fun _ => rfl
    · split
      · exact keeps_onSup c _ fun _ => rfl
      · exact .refl s

theorem keeps_recompute (note : Option ChannelNote) (h : W .masks) : KeepsAllBut W s (s.recompute note) :=
  ((keeps_channel fun hw => absurd h hw).trans (keeps_giveNoticeIf _ .sr .mask)).trans (keeps_giveNoticeIf _ .ar .mask)

/-- Records of other clients than `c` are left where only flows of `c` are taken away. -/
theorem keeps_flows_of_filter (p : Flow → Bool)
    (h : ∀ c, ¬ W (.flows c) → slotsRise s.flows → ∀ f ∈ s.flows, f.owner = c → p f = true) :
    KeepsAllBut W s { s with flows := s.flows.filter p } :=
  keeps_flows fun c hc hs => ⟨hs.filter p, ownedHandles_filter p _ (h c hc hs)⟩

theorem keeps_teardown (c : Client) (hd : W (.draft c)) (hb : W (.binding c)) (hf : W (.flows c))
    (hm : c = .nr → W .masks) : KeepsAllBut W s (s.teardown c) := by
  have own : KeepsAllBut W s (((s.onSup c fun v => { v with state := .detached, deadline := none }).onLive c
      LiveClaim.unbound).onLink c fun l => { l with draft := .initial, notices := 0 }) := by
    refine .trans ?_ (keeps_onLink_writing c _ (.inl hd) (.inr fun _ => rfl))
    refine .trans ?_ (keeps_onLive_writing c _ (.inr fun _ => rfl) (.inr fun _ => rfl) (.inl hb))
    exact keeps_onSup c _ fun _ => rfl
  have tables := (own.trans (keeps_flows_of_filter (fun f => f.owner != c) fun d hd _ f _ ho => by
    have : d ≠ c := fun e => hd (e ▸ hf)
    simpa [ho] using this)).trans (keeps_plan fun _ => bookedIn_filter (fun e => e.owner != c) _)
  unfold State.teardown
  dsimp only
  split
  · rename_i hc
    exact (tables.trans (keeps_recompute none (hm hc))).trans (keeps_claimsLeft _ _)
  · exact tables.trans (keeps_claimsLeft _ _)

theorem keeps_teardownIfAttached (c : Client) (hd : W (.draft c)) (hb : W (.binding c)) (hf : W (.flows c))
    (hm : c = .nr → W .masks) : KeepsAllBut W s (s.teardownIfAttached c) := by
  unfold State.teardownIfAttached
  split
  · exact .refl s
  · exact keeps_teardown c hd hb hf hm

/-! ### Platform writes -/

theorem keeps_finishWrite (r : PortResult) (bs : List Byte) (h : W .portResult) :
    KeepsAllBut W s (s.finishWrite r bs) := keeps_port rfl fun hw => absurd h hw

theorem keeps_refuseWrite (r : PortResult) (h : W .portResult) : KeepsAllBut W s (s.refuseWrite r) :=
  keeps_port rfl fun hw => absurd h hw

theorem keeps_read (bs : Option (List Byte)) (h : W .portResult) : KeepsAllBut W s (s.read bs) := by
  cases bs
  · exact keeps_refuseWrite _ h
  · exact keeps_finishWrite _ _ h

/-! ### How rows run -/

/-- A row keeps what its action keeps: while RESETN is low it does nothing. -/
theorem keeps_whenRunning {f : State → State} (he : s.whenRunning f = .next t) (h : KeepsAllBut W s (f s)) :
    KeepsAllBut W s t := by
  cases he
  split
  · exact h
  · exact .refl s

/-- Taking a passing frame writes no part of the frame: it keeps what its action keeps. -/
theorem keeps_takeFrame (c : Client) {act : State → State} (h : ∀ u, KeepsAllBut W u (act u)) :
    KeepsAllBut W s (s.takeFrame c act) := by
  unfold State.takeFrame
  split
  · refine .trans ?_ (h _)
    refine .trans ?_ (keeps_presence c)
    exact keeps_onLink c _ fun _ => ⟨rfl, rfl⟩
  · exact .refl s

theorem keeps_ifAdmitted (c : Client) {act : State → State} (h : KeepsAllBut W s (act s)) :
    KeepsAllBut W s (s.ifAdmitted c act) := by
  unfold State.ifAdmitted
  split
  · exact h
  · exact keeps_refuse c _

end Operations

end Sys2Proof.Machine
end


section
namespace Sys2Proof.Machine

/-! ## What the rows keep

One lemma for each act a row takes, then the rows themselves against the list of what each may write. -/

section Acts

variable {W : Part → Prop} {s t : State}

/-! ### Flows -/

theorem State.flowNamed_some {s : State} {c : Client} {h : Nat} {f : Flow} (e : s.flowNamed c h = some f) :
    f ∈ s.flows ∧ f.owner = c ∧ f.handle = h := by
  have hp := List.find?_some e
  simp only [Bool.and_eq_true, beq_iff_eq] at hp
  exact ⟨List.mem_of_find?_eq_some e, hp⟩

theorem State.flowAt_some {s : State} {k : Nat} {f : Flow} (e : s.flowAt k = some f) : f ∈ s.flows ∧ f.slot = k :=
  ⟨List.mem_of_find?_eq_some e, by simpa using List.find?_some e⟩

/-- The slot a new flow takes is in use by no record (R43). -/
theorem State.freeSlot_free {s : State} {k : Nat} (e : s.freeSlot = some k) : ∀ f ∈ s.flows, f.slot ≠ k := by
  simpa using List.find?_some e

theorem keeps_openFlow (c : Client) (handle : Nat) (h : W (.flows c)) : KeepsAllBut W s (s.openFlow c handle) := by
  unfold State.openFlow
  split
  · exact keeps_refuse c _
  · split
    · exact keeps_refuse c _
    · rename_i k _
      split
      · exact keeps_refuse c _
      · split
        · exact keeps_refuse c _
        · split
          · exact keeps_refuse c _
          · rename_i slot hslot
            refine .trans (t := { s with flows := insertFlow (newFlow slot c handle k) s.flows })
              (keeps_flows fun d hd hs => ?_) (keeps_answer c _ _)
            have hcd : c ≠ d := fun e => hd (e ▸ h)
            exact ⟨slotsRise_insertFlow _ hs (State.freeSlot_free hslot), ownedHandles_insertFlow _ _ hcd⟩

theorem keeps_closeFlow {f : Flow} (hf : f ∈ s.flows) (hw : W (.flows f.owner)) (hb : W (.binding f.owner)) :
    KeepsAllBut W s (s.closeFlow f) := by
  have flows : KeepsAllBut W s { s with flows := s.flows.filter fun x => x.slot != f.slot } :=
    keeps_flows_of_filter _ fun d hd hs x hx ho => by
      have hne : x.slot ≠ f.slot := fun e => hd (by rw [← ho, slotsRise.eq_of_slot hs hx hf e]; exact hw)
      simpa using hne
  have plan := flows.trans (keeps_plan fun _ => bookedIn_filter (fun e => e.flow != f.slot) _)
  have gone := plan.trans (keeps_live (x := if (s.live.get f.owner).binding = some f.slot then
      s.live.set f.owner (s.live.get f.owner).unbound else s.live)
    (fun d _ => by split <;> [exact PerClient.map_get_set _ _ _ _ _ rfl; rfl])
    (fun d _ => by split <;> [exact PerClient.map_get_set _ _ _ _ _ rfl; rfl])
    fun d hd => by
      have hdo : d ≠ f.owner := fun e => hd (e ▸ hb)
      split <;> simp [hdo])
  unfold State.closeFlow
  dsimp only
  split
  · exact gone.trans (keeps_claimsLeft _ _)
  · exact gone

/-! ### Bookings -/

theorem keeps_commitPost (c : Client) (x : Entry) (trimmed advanced : Bool) (h : W .bookings) :
    KeepsAllBut W s (s.commitPost c x trimmed advanced) := by
  unfold State.commitPost
  refine .trans ?_ (keeps_answer c _ _)
  refine .trans ?_ (keeps_wake _)
  exact keeps_plan fun hw => absurd h hw

theorem keeps_postDraft (c : Client) (f : Flow) (d : Draft) (h : W .bookings) :
    KeepsAllBut W s (s.postDraft c f d) := by
  unfold State.postDraft
  split
  · exact keeps_refuse c _
  · split
    · exact keeps_refuse c _
    · split
      · exact keeps_refuse c _
      · split
        · exact keeps_refuse c _
        · split
          · exact keeps_commitPost c _ _ _ h
          · exact .trans (keeps_setPortNotice _) (keeps_refuse c _)

theorem keeps_retimeEntry (e : Entry) (o : BitVec 13) : KeepsAllBut W s (s.retimeEntry e o) := by
  unfold State.retimeEntry
  split
  · refine .trans ?_ (keeps_wake _)
    exact keeps_onEntry _ _ fun _ _ hx => by cases hx; rfl
  · exact .refl s
  · exact keeps_onEntry _ _ fun _ _ hx => by cases hx; rfl

theorem keeps_missOccurrence (e : Entry) : KeepsAllBut W s (s.missOccurrence e) := by
  unfold State.missOccurrence
  refine .trans ?_ (keeps_wake _)
  refine .trans ?_ (keeps_stateCheckIf _)
  refine .trans ?_ (keeps_claimsLeft _ _)
  refine .trans ?_ (keeps_advanceEntry e)
  refine .trans ?_ (keeps_giveNotice _ _)
  refine .trans ?_ keeps_countMiss
  exact keeps_onFlow _ _ fun _ => rfl

theorem keeps_serveOccurrence (e : Entry) : KeepsAllBut W s (s.serveOccurrence e) := by
  unfold State.serveOccurrence
  refine .trans ?_ (keeps_claimsLeft _ _)
  refine .trans ?_ (keeps_wake _)
  refine .trans ?_ (keeps_advanceEntry e)
  exact keeps_onFlow _ _ fun _ => rfl

/-! ### Links -/

theorem keeps_rejectFrame (c : Client) (h : W (.errors c)) : KeepsAllBut W s (s.rejectFrame c) := by
  unfold State.rejectFrame
  refine .trans ?_ (keeps_setPortNotice _)
  exact keeps_onLink_writing c _ (.inr fun _ => rfl) (.inl h)

/-! ### Windows -/

/-- The window has just started: nothing has been charged in it, and nobody is penalised. -/
structure State.WindowFresh (t : State) : Prop where
  windowStart : t.acct.windowStart = t.clock
  usage : t.acct.usage = .all 0
  guardTime : t.acct.guardTime = 0
  idleTime : t.acct.idleTime = 0
  chargeStart : t.acct.chargeStart = t.clock
  penalty : t.acct.penalty = .all 0

/-- `Accountant.freshWindow` makes the window fresh (R8, R10, R23). -/
theorem State.windowFresh_of_freshWindow {t : State} {a : Accountant}
    (h : t.acct = { a.freshWindow t.clock with
      charged := t.acct.charged, last := t.acct.last, reviewCount := t.acct.reviewCount, survey := t.acct.survey }) :
    t.WindowFresh := by constructor <;> rw [h] <;> rfl

theorem State.WindowFresh.usageNow (h : t.WindowFresh) (c : Client) : t.usageNow c = 0 := by
  simp [State.usageNow, State.elapsed, h.usage, h.chargeStart]

theorem State.WindowFresh.guardNow (h : t.WindowFresh) : t.guardNow = 0 := by
  simp [State.guardNow, State.elapsed, h.guardTime, h.chargeStart]

theorem State.WindowFresh.idleNow (h : t.WindowFresh) : t.idleNow = 0 := by
  simp [State.idleNow, State.elapsed, h.idleTime, h.chargeStart]

theorem State.WindowFresh.penaltyFollows (h : t.WindowFresh) : t.penaltyFollows := by
  intro c
  simp [State.penaltyNow, h.usageNow, h.penalty]

theorem State.WindowFresh.conserves (h : t.WindowFresh) (h3 : 3 ≤ t.policy.windowN) (h255 : t.policy.windowN ≤ 255) :
    t.conserves := by
  refine ⟨h3, h255, ?_, ?_⟩
  · simp [h.windowStart]
  · simp [h.usageNow, h.guardNow, h.idleNow, h.windowStart]

/-- The state a rollover leaves before the check it may bring (R8). -/
def State.rolledOver (s : State) : State :=
  (({ s with acct := { s.acct.freshWindow s.clock with
    last := s.windowRecord
    reviewCount := if s.reviewDue then 0 else s.acct.reviewCount + 1
    survey := s.acct.survey.advance s.windowRecord } } : State).setPortNoticeIf s.reviewDue .review).setPortNoticeIf
      s.acct.survey.completes .surveyDone

theorem State.doRollover_eq (s : State) : s.doRollover = s.rolledOver.stateCheckIf s.waitingPenalised := rfl

theorem keeps_setPortNoticeIf (p : Bool) (n : PortNotice) : KeepsAllBut W s (s.setPortNoticeIf p n) := by
  cases p
  · exact .refl s
  · exact keeps_setPortNotice n

@[simp] theorem State.setPortNoticeIf_eq (s : State) (p : Bool) (n : PortNotice) :
    s.setPortNoticeIf p n = { s with port := { s.port with flags := s.port.flags ||| if p then portBit n else 0 } } := by
  cases p
  · simp [State.setPortNoticeIf]
  · rfl

theorem State.rolledOver_fresh (s : State) : s.rolledOver.WindowFresh :=
  State.windowFresh_of_freshWindow (a := s.acct) (by simp only [State.rolledOver, State.setPortNoticeIf_eq])

theorem keeps_rolledOver (hl : W .lastRecord) (hw : W .window) (hs : W .survey) (ha : W .accounts) :
    KeepsAllBut W s s.rolledOver := by
  refine .trans ?_ (keeps_setPortNoticeIf _ _)
  refine .trans ?_ (keeps_setPortNoticeIf _ _)
  intro p hp
  have base := p.kept_refl s
  cases p with
  | lastRecord => exact absurd hl hp
  | window => exact absurd hw hp
  | survey => exact absurd hs hp
  | accounts => exact absurd ha hp
  | penalties => exact fun _ => (State.windowFresh_of_freshWindow (a := s.acct) rfl).penaltyFollows
  | _ => exact base

theorem State.restartWindow_fresh (s : State) (n r : Nat) : (s.restartWindow n r).WindowFresh :=
  State.windowFresh_of_freshWindow (a := s.acct) (by simp only [State.restartWindow, State.setPortNoticeIf_eq])

theorem keeps_restartWindow (n r : Nat) (hp : W .policy) (hw : W .window) (hs : W .survey) (ha : W .accounts) :
    KeepsAllBut W s (s.restartWindow n r) := by
  refine .trans ?_ (keeps_setPortNoticeIf _ _)
  intro p hpw
  have base := p.kept_refl s
  cases p with
  | policy => exact absurd hp hpw
  | window => exact absurd hw hpw
  | survey => exact absurd hs hpw
  | accounts => exact absurd ha hpw
  | charge => exact fun _ => rfl
  | penalties => exact fun _ => (State.windowFresh_of_freshWindow (a := s.acct) rfl).penaltyFollows
  | _ => exact base

theorem State.restartAll_fresh (s : State) : s.restartAll.WindowFresh :=
  State.windowFresh_of_freshWindow (a := s.acct) rfl

/-! ### Policy -/

/-- A change of policy that leaves the window settings and the shares as they were. -/
theorem keeps_policy (q : Policy) (h : W .policy) (hn : q.windowN = s.policy.windowN) (hr : q.reviewR = s.policy.reviewR)
    (hs : ∀ c, (q.clients.get c).share = (s.policy.clients.get c).share) : KeepsAllBut W s { s with policy := q } := by
  intro p hp
  have base := p.kept_refl s
  cases p with
  | policy => exact absurd h hp
  | accounts => exact ⟨hn, hr, fun _ => rfl, rfl, rfl⟩
  | penalties =>
    intro hf c
    have e : ({ s with policy := q } : State).penaltyNow c = s.penaltyNow c := by
      simp only [State.penaltyNow, State.window, hn, hs]
      rfl
    rw [e]
    exact hf c
  | _ => exact base

/-- A client's share written: the penalties still follow the usage, since a changed share recomputes its own (R14). -/
theorem keeps_shareChanged (c : Client) (x : PerClient ClientPolicy) (h : W .policy)
    (hx : ∀ d, d ≠ c → (x.get d).share = (s.policy.clients.get d).share) :
    KeepsAllBut W s (({ s with policy := { s.policy with clients := x } } : State).shareChanged c
      (s.policy.clients.get c).share) := by
  unfold State.shareChanged
  split
  · rename_i hc
    refine keeps_policy _ h rfl rfl fun d => ?_
    by_cases hd : d = c
    · subst hd; exact hc
    · exact hx d hd
  · intro p hp
    have base := p.kept_refl s
    cases p with
    | policy => exact absurd h hp
    | penalties =>
      intro hf d
      by_cases hd : d = c
      · subst hd
        dsimp only
        rw [PerClient.get_set_same]
        split
        · exact le_rfl
        · rfl
      · have e := hf d
        have hp : s.penaltyNow d = penaltyOf s.window (x.get d).share (s.usageNow d) := by
          rw [hx d hd]; rfl
        rw [hp] at e
        dsimp only
        rw [PerClient.get_set_other _ _ _ _ hd]
        exact e
    | _ => exact base

theorem swappedRank_share (p : PerClient ClientPolicy) (c : Client) (share cap presence rank : Nat) (d : Client)
    (h : d ≠ c) : ((writtenClients p c share cap presence rank).get d).share = (p.get d).share := by
  rw [writtenClients, PerClient.get_set_other _ _ _ _ h]
  cases d <;> rfl

theorem keeps_setClient (c : Client) (share cap presence rank : Nat) (h : W .policy) :
    KeepsAllBut W s (s.setClient c share cap presence rank) := by
  unfold State.setClient
  refine .trans ?_ keeps_stateCheck
  refine .trans ?_ (keeps_giveNoticeIf _ c _)
  refine .trans ?_ (keeps_presenceChanged c _)
  exact keeps_shareChanged c _ h fun d hd => swappedRank_share _ _ _ _ _ _ d hd

theorem keeps_defaultMoved (old : Client) : KeepsAllBut W s (s.defaultMoved old) := by
  have move : KeepsAllBut W s (s.passZeroGuard s.moveToDefault) :=
    (arbiterClosed_keepsAllBut W).passZeroGuard ((arbiterClosed_keepsAllBut W).moveToDefault s) s
  unfold State.defaultMoved
  split
  · exact .refl s
  · split
    · exact move
    · exact move
    · exact .refl s

theorem keeps_setArbiter (g m a : Nat) (p : Client) (x : Nat) (hp : W .policy) (hm : W .masks) :
    KeepsAllBut W s (s.setArbiter g m a p x) := by
  have moved : KeepsAllBut W s (({ s with policy := { s.policy with
      guardTime := g, margin := m, agingInterval := a, defaultPos := p, channelGuard := x } } : State).defaultMoved
      s.policy.defaultPos) := by
    refine .trans ?_ (keeps_defaultMoved _)
    exact keeps_policy _ hp rfl rfl fun _ => rfl
  unfold State.setArbiter
  refine .trans ?_ keeps_stateCheck
  split
  · exact moved
  · exact moved.trans (keeps_recompute _ hm)

/-- The holder's penalty brought to R12's value follows the usage still (R13). -/
theorem keeps_raisedPenalty (c : Client) : KeepsAllBut W s { s with acct := { s.acct with
    penalty := s.acct.penalty.set c (s.penaltyNow c) } } := by
  intro p _
  have base := p.kept_refl s
  cases p with
  | penalties =>
    intro hf d
    by_cases hd : d = c
    · subst hd
      dsimp only
      rw [PerClient.get_set_same]
      split
      · exact le_rfl
      · rfl
    · dsimp only
      rw [PerClient.get_set_other _ _ _ _ hd]
      exact hf d
  | _ => exact base

end Acts

end Sys2Proof.Machine
end


section
namespace Sys2Proof.Machine

/-! ## The rows -/

/-- The parts a row may write: those the rules of its block give it (R1, R4, R9, R16, R17, R25, R38, R42, R43, R52,
R58, R86, R113, R134, R140, R149, R156). -/
def Part.written (i : Instr) : Part → Prop
  | .policy => Instr.setsPolicy i = true
  | .masks => (∃ v, i = .channelNote .nr v) ∨ (∃ g m a p x, i = .setArbiter g m a p x) ∨ Instr.mayTearDown .nr i = true
  | .portResult => Instr.isPortWrite i = true
  | .draft c => Instr.mayTearDown c i = true ∨ ∃ k v, i = .parameterFrame c k v
  | .errors c => i = .restart ∨ (∃ x, i = .frameRejected c x) ∨ i = .selectTimeout c
  | .frozen c => ∃ b x, i = .freezePlan b x ∧ clientOfIndex b.toNat = some c
  | .reqLevel c => i = .reqRise c ∨ i = .reqFall c
  | .prioLevel c => ∃ x, i = .prioEdge c x
  | .binding c => Instr.mayTearDown c i = true ∨ (∃ v, i = .bindLive c v) ∨ ∃ v, i = .closeFlow c v
  | .lastRecord => i = .rollover
  | .window => i = .rollover ∨ (∃ n r, i = .setWindow n r) ∨ i = .restart
  | .survey => i = .rollover ∨ (∃ n r, i = .setWindow n r) ∨ i = .restart ∨ (∃ k, i = .startSurvey k) ∨ i = .stopSurvey
  | .flows c => Instr.mayTearDown c i = true ∨ (∃ v, i = .openFlow c v) ∨ ∃ v, i = .closeFlow c v
  | .bookings => ∃ c v, i = .post c v
  | .accounts => i = .rollover ∨ (∃ n r, i = .setWindow n r) ∨ i = .restart
  | _ => False

/-- The parts of `c` that its teardown writes are those of a row that may tear it down. -/
theorem keeps_teardown_row {i : Instr} {c : Client} {s : State} (h : Instr.mayTearDown c i = true) :
    KeepsAllBut (Part.written i) s (s.teardownIfAttached c) :=
  keeps_teardownIfAttached c (.inl h) (.inl h) (.inl h) fun e => .inr (.inr (e ▸ h))

section Rows

variable {s t : State}

theorem execReplyCapture_keeps {W : Part → Prop} {c : Client} (h : execReplyCapture c s = .next t) :
    KeepsAllBut W s t := by
  refine keeps_whenRunning h ?_
  split
  · dsimp only
    split
    · refine .trans ?_ (keeps_freeIndex _)
      exact keeps_onLink c _ fun _ => ⟨rfl, rfl⟩
    · exact keeps_onLink c _ fun _ => ⟨rfl, rfl⟩
  · exact .refl s

theorem execPause_keeps {W : Part → Prop} {c : Client} (h : execPause c s = .next t) : KeepsAllBut W s t := by
  refine keeps_whenRunning h ?_
  split
  · exact keeps_onLink c _ fun _ => ⟨rfl, rfl⟩
  · exact .refl s

theorem execFrameRejected_keeps {c : Client} {x : FrameFault} (h : execFrameRejected c x s = .next t) :
    KeepsAllBut (Part.written (.frameRejected c x)) s t := by
  refine keeps_whenRunning h ?_
  split
  · refine .trans ?_ (keeps_rejectFrame c (.inr (.inl ⟨x, rfl⟩)))
    exact keeps_onLink c _ fun _ => ⟨rfl, rfl⟩
  · exact .refl s

theorem execSelectTimeout_keeps {c : Client} (h : execSelectTimeout c s = .next t) :
    KeepsAllBut (Part.written (.selectTimeout c)) s t := by
  refine keeps_whenRunning h ?_
  split
  · refine .trans ?_ (keeps_rejectFrame c (.inr (.inr rfl)))
    exact keeps_onLink c _ fun _ => ⟨rfl, rfl⟩
  · exact .refl s

theorem execAbortedFrameEnd_keeps {W : Part → Prop} {c : Client} (h : execAbortedFrameEnd c s = .next t) :
    KeepsAllBut W s t := by
  refine keeps_whenRunning h ?_
  split
  · exact keeps_onLink c _ fun _ => ⟨rfl, rfl⟩
  · exact .refl s

theorem execSelRiseAfterReset_keeps {W : Part → Prop} {c : Client} (h : execSelRiseAfterReset c s = .next t) :
    KeepsAllBut W s t := by
  refine keeps_whenRunning h ?_
  split
  · exact keeps_onLink c _ fun _ => ⟨rfl, rfl⟩
  · exact .refl s

theorem execAttach_keeps {c : Client} {v : Value} (h : execAttach c v s = .next t) :
    KeepsAllBut (Part.written (.attach c v)) s t := by
  refine keeps_whenRunning h ?_
  split
  · refine .trans ?_ (keeps_onLink c _ fun _ => ⟨rfl, rfl⟩)
    refine .trans ?_ (keeps_enterOpening c)
    refine .trans ?_ (keeps_teardown_row (by simp [Instr.mayTearDown]))
    exact keeps_onLink c _ fun _ => ⟨rfl, rfl⟩
  · exact .refl s

theorem execDetach_keeps {c : Client} {v : Value} (h : execDetach c v s = .next t) :
    KeepsAllBut (Part.written (.detach c v)) s t := by
  refine keeps_whenRunning h (keeps_takeFrame c fun u => ?_)
  exact .trans (keeps_teardown_row (by simp [Instr.mayTearDown])) (keeps_answer c _ _)

theorem execCloseFlow_keeps {c : Client} {v : Value} (h : execCloseFlow c v s = .next t) :
    KeepsAllBut (Part.written (.closeFlow c v)) s t := by
  refine keeps_whenRunning h (keeps_takeFrame c fun u => keeps_ifAdmitted c ?_)
  split
  · exact keeps_refuse c _
  · rename_i f hf
    obtain ⟨hmem, rfl, _⟩ := State.flowNamed_some hf
    split
    · exact keeps_refuse _ _
    · exact .trans (keeps_closeFlow hmem (.inr (.inr ⟨v, rfl⟩)) (.inr (.inr ⟨v, rfl⟩))) (keeps_answer _ _ _)

theorem execReclass_keeps {W : Part → Prop} {c : Client} {v : Value} (h : execReclass c v s = .next t) :
    KeepsAllBut W s t := by
  refine keeps_whenRunning h (keeps_takeFrame c fun u => keeps_ifAdmitted c ?_)
  split
  · exact keeps_refuse c _
  · rename_i f hf
    split
    · exact keeps_refuse c _
    · split
      · exact keeps_refuse c _
      · refine .trans ?_ (keeps_answer c _ _)
        exact keeps_reclassed (State.flowNamed_some hf).1 rfl

theorem execBindLive_keeps {c : Client} {v : Value} (h : execBindLive c v s = .next t) :
    KeepsAllBut (Part.written (.bindLive c v)) s t := by
  have hb : Part.written (.bindLive c v) (.binding c) := .inr (.inl ⟨v, rfl⟩)
  refine keeps_whenRunning h (keeps_takeFrame c fun u => keeps_ifAdmitted c ?_)
  split
  · split
    · refine .trans ?_ (keeps_answer c _ _)
      exact keeps_onLive_writing c _ (.inr fun _ => rfl) (.inr fun _ => rfl) (.inl hb)
    · exact keeps_refuse c _
  · split
    · exact keeps_refuse c _
    · split
      · refine .trans ?_ (keeps_answer c _ _)
        exact keeps_onLive_writing c _ (.inr fun _ => rfl) (.inr fun _ => rfl) (.inl hb)
      · exact keeps_refuse c _

theorem execPost_keeps {c : Client} {v : Value} (h : execPost c v s = .next t) :
    KeepsAllBut (Part.written (.post c v)) s t := by
  refine keeps_whenRunning h (keeps_takeFrame c fun u => keeps_ifAdmitted c ?_)
  split
  · exact keeps_refuse c _
  · split
    · exact keeps_refuse c _
    · exact keeps_postDraft c _ _ ⟨c, v, rfl⟩

theorem execRetime_keeps {W : Part → Prop} {c : Client} {v : Value} (h : execRetime c v s = .next t) :
    KeepsAllBut W s t := by
  refine keeps_whenRunning h (keeps_takeFrame c fun u => keeps_ifAdmitted c ?_)
  split
  · exact keeps_refuse c _
  · split
    · exact keeps_refuse c _
    · exact .trans (keeps_retimeEntry _ _) (keeps_answer c _ _)

theorem execCancel_keeps {W : Part → Prop} {c : Client} {v : Value} (h : execCancel c v s = .next t) :
    KeepsAllBut W s t := by
  refine keeps_whenRunning h (keeps_takeFrame c fun u => keeps_ifAdmitted c ?_)
  split
  · exact keeps_refuse c _
  · split
    · exact keeps_refuse c _
    · exact .trans (keeps_removeEntry _ _) (keeps_answer c _ _)

theorem execChannelNote_keeps {c : Client} {v : Value} (h : execChannelNote c v s = .next t) :
    KeepsAllBut (Part.written (.channelNote c v)) s t := by
  refine keeps_whenRunning h (keeps_takeFrame c fun u => keeps_ifAdmitted c ?_)
  split
  · exact keeps_refuse c _
  · rename_i hc
    split
    · exact keeps_refuse c _
    · exact .trans (keeps_recompute _ (.inl ⟨v, by rw [not_not.mp hc]⟩)) (keeps_answer c _ _)

theorem execClearNotes_keeps {W : Part → Prop} {c : Client} {v : Value} (h : execClearNotes c v s = .next t) :
    KeepsAllBut W s t := by
  refine keeps_whenRunning h (keeps_takeFrame c fun u => ?_)
  refine .trans ?_ (keeps_answer c _ _)
  exact keeps_onLink c _ fun _ => ⟨rfl, rfl⟩

theorem execParameterFrame_keeps {c : Client} {k : BitVec 5} {v : Value}
    (h : execParameterFrame c k v s = .next t) : KeepsAllBut (Part.written (.parameterFrame c k v)) s t := by
  refine keeps_whenRunning h (keeps_takeFrame c fun u => keeps_ifAdmitted c ?_)
  split
  · exact keeps_refuse c _
  · refine .trans ?_ (keeps_answer c _ _)
    exact keeps_onLink_writing c _ (.inl (.inr ⟨k, v, rfl⟩)) (.inr fun _ => rfl)

/-- A FETCH is left in the reply register and writes no part of the frame. -/
theorem keeps_fetch {W : Part → Prop} {c : Client} {item : Nat} {arg : BitVec 16}
    (h : (s.whenRunning fun s => s.takeFrame c fun s => s.leaveFetch c item arg) = .next t) : KeepsAllBut W s t := by
  refine keeps_whenRunning h (keeps_takeFrame c fun u => ?_)
  exact keeps_onLink c _ fun _ => ⟨rfl, rfl⟩

theorem execReqRise_keeps {c : Client} (h : execReqRise c s = .next t) :
    KeepsAllBut (Part.written (.reqRise c)) s t := by
  have hr : Part.written (.reqRise c) (.reqLevel c) := .inl rfl
  refine keeps_whenRunning h ?_
  split
  · exact .refl s
  · split
    · refine .trans ?_ (keeps_claimArrived c)
      exact keeps_onLive_writing c _ (.inl hr) (.inr fun _ => rfl) (.inr fun _ => rfl)
    · exact keeps_onLive_writing c _ (.inl hr) (.inr fun _ => rfl) (.inr fun _ => rfl)

theorem execReqFall_keeps {c : Client} (h : execReqFall c s = .next t) :
    KeepsAllBut (Part.written (.reqFall c)) s t := by
  have released : KeepsAllBut (Part.written (.reqFall c)) s
      (s.onLive c fun l => { l.toIdle with reqLevel := false }) :=
    keeps_onLive_writing c _ (.inl (.inr rfl)) (.inr fun _ => rfl) (.inr fun _ => rfl)
  refine keeps_whenRunning h ?_
  split
  · exact .refl s
  · dsimp only
    split
    · exact released.trans (keeps_claimsLeft _ _)
    · exact released

theorem LiveClaim.nextAging_keeps (l : LiveClaim) (k : Nat) :
    (l.nextAging k).reqLevel = l.reqLevel ∧ (l.nextAging k).prioLevel = l.prioLevel ∧
      (l.nextAging k).binding = l.binding := by
  unfold LiveClaim.nextAging
  split <;> exact ⟨rfl, rfl, rfl⟩

theorem execAgingExpiry_keeps {W : Part → Prop} {c : Client} (h : execAgingExpiry c s = .next t) :
    KeepsAllBut W s t := by
  refine keeps_whenRunning h ?_
  split
  · refine .trans ?_ (keeps_stateCheckIf _)
    refine .trans ?_ (keeps_onLive c _ fun l => l.nextAging_keeps _)
    exact keeps_onBoundFlow c _ fun _ => rfl
  · exact .refl s

theorem execHoldExpiry_keeps {W : Part → Prop} {c : Client} (h : execHoldExpiry c s = .next t) :
    KeepsAllBut W s t := by
  refine keeps_whenRunning h ?_
  split
  · exact keeps_expireHold c
  · exact .refl s

theorem execPresenceExpiry_keeps {W : Part → Prop} {c : Client} (h : execPresenceExpiry c s = .next t) :
    KeepsAllBut W s t := by
  refine keeps_whenRunning h ?_
  split
  · exact keeps_silence c
  · exact .refl s

theorem execMiss_keeps {W : Part → Prop} {n : Fin 32} (h : execMiss n s = .next t) : KeepsAllBut W s t := by
  refine keeps_whenRunning h ?_
  split
  · exact .refl s
  · split
    · exact keeps_missOccurrence _
    · exact .refl s

theorem execOccurrenceEnd_keeps {W : Part → Prop} {n : Fin 32} (h : execOccurrenceEnd n s = .next t) :
    KeepsAllBut W s t := by
  refine keeps_whenRunning h ?_
  split
  · exact .refl s
  · split
    · exact keeps_serveOccurrence _
    · exact .refl s

theorem execSuspendedStep_keeps {W : Part → Prop} {n : Fin 32} (h : execSuspendedStep n s = .next t) :
    KeepsAllBut W s t := by
  refine keeps_whenRunning h (keeps_onEntry _ _ fun e x hx => ?_)
  cases hx
  split <;> rfl

theorem execOneshotExpired_keeps {W : Part → Prop} {n : Fin 32} (h : execOneshotExpired n s = .next t) :
    KeepsAllBut W s t := by
  refine keeps_whenRunning h (keeps_onEntry _ _ fun e x hx => ?_)
  cases hx
  split <;> rfl

theorem execGuardEndSettling_keeps {W : Part → Prop} (h : execGuardEndSettling s = .next t) : KeepsAllBut W s t := by
  refine keeps_whenRunning h ?_
  split
  · split
    · exact (arbiterClosed_keepsAllBut W).grant s _
    · exact .refl s
  · exact .refl s

theorem execGuardEndParking_keeps {W : Part → Prop} (h : execGuardEndParking s = .next t) : KeepsAllBut W s t := by
  refine keeps_whenRunning h ?_
  split
  · split
    · exact keeps_setMode _
    · exact .refl s
  · exact .refl s

theorem execRollover_keeps (h : execRollover s = .next t) : KeepsAllBut (Part.written .rollover) s t := by
  refine keeps_whenRunning h ?_
  split
  · rw [State.doRollover_eq]
    exact .trans (keeps_rolledOver rfl (.inl rfl) (.inl rfl) (.inl rfl)) (keeps_stateCheckIf _)
  · exact .refl s

theorem execPenaltyCrossing_keeps {W : Part → Prop} (h : execPenaltyCrossing s = .next t) : KeepsAllBut W s t := by
  refine keeps_whenRunning h ?_
  split
  · split
    · exact .trans (keeps_raisedPenalty _) keeps_stateCheck
    · exact .refl s
  · exact .refl s

theorem execSetClass_keeps {k b a f : Byte} {l : BitVec 16} (h : execSetClass k b a f l s = .next t) :
    KeepsAllBut (Part.written (.setClass k b a f l)) s t := by
  refine keeps_whenRunning h ?_
  split
  · exact keeps_refuseWrite _ rfl
  · refine .trans ?_ (keeps_finishWrite _ _ rfl)
    refine .trans ?_ keeps_stateCheck
    refine .trans ?_ (keeps_refreshHolds _)
    exact keeps_policy _ rfl rfl rfl fun _ => rfl

theorem execSetClient_keeps {b share : Byte} {cap : BitVec 16} {p rank : Byte}
    (h : execSetClient b share cap p rank s = .next t) :
    KeepsAllBut (Part.written (.setClient b share cap p rank)) s t := by
  refine keeps_whenRunning h ?_
  split
  · exact keeps_refuseWrite _ rfl
  · exact .trans (keeps_setClient _ _ _ _ _ rfl) (keeps_finishWrite _ _ rfl)

theorem execSetWindow_keeps {n r : Byte} (h : execSetWindow n r s = .next t) :
    KeepsAllBut (Part.written (.setWindow n r)) s t := by
  refine keeps_whenRunning h ?_
  refine .trans ?_ (keeps_finishWrite _ _ rfl)
  refine .trans ?_ keeps_stateCheck
  exact keeps_restartWindow _ _ rfl (.inr (.inl ⟨n, r, rfl⟩)) (.inr (.inl ⟨n, r, rfl⟩)) (.inr (.inl ⟨n, r, rfl⟩))

theorem execSetArbiter_keeps {g m a p x : Byte} (h : execSetArbiter g m a p x s = .next t) :
    KeepsAllBut (Part.written (.setArbiter g m a p x)) s t := by
  refine keeps_whenRunning h ?_
  refine .trans ?_ (keeps_finishWrite _ _ rfl)
  exact keeps_setArbiter _ _ _ _ _ rfl (.inr (.inl ⟨g, m, a, p, x, rfl⟩))

theorem execFreezePlan_keeps {b x : Byte} (h : execFreezePlan b x s = .next t) :
    KeepsAllBut (Part.written (.freezePlan b x)) s t := by
  refine keeps_whenRunning h ?_
  split
  · exact keeps_refuseWrite _ rfl
  · rename_i c hc
    refine .trans ?_ (keeps_finishWrite _ _ rfl)
    refine .trans ?_ (keeps_giveNoticeIf _ c _)
    refine keeps_sup fun d hd => ?_
    have hdc : d ≠ c := fun e => hd ⟨b, x, rfl, e ▸ hc⟩
    rw [PerClient.get_set_other _ _ _ _ hdc]

theorem execPinFlow_keeps {k x : Byte} (h : execPinFlow k x s = .next t) :
    KeepsAllBut (Part.written (.pinFlow k x)) s t := by
  refine keeps_whenRunning h ?_
  split
  · exact keeps_refuseWrite _ rfl
  · rename_i f hf
    exact .trans (keeps_setPin _ (State.flowAt_some hf).1) (keeps_finishWrite _ _ rfl)

theorem execUnpinFlow_keeps {k : Byte} (h : execUnpinFlow k s = .next t) :
    KeepsAllBut (Part.written (.unpinFlow k)) s t := by
  refine keeps_whenRunning h ?_
  split
  · exact keeps_refuseWrite _ rfl
  · rename_i f hf
    exact .trans (keeps_setPin _ (State.flowAt_some hf).1) (keeps_finishWrite _ _ rfl)

theorem execDropEntry_keeps {n : Byte} (h : execDropEntry n s = .next t) :
    KeepsAllBut (Part.written (.dropEntry n)) s t := by
  refine keeps_whenRunning h ?_
  split
  · exact keeps_refuseWrite _ rfl
  · exact .trans (keeps_removeEntry _ _) (keeps_finishWrite _ _ rfl)

theorem execEvict_keeps {b : Byte} (h : execEvict b s = .next t) : KeepsAllBut (Part.written (.evict b)) s t := by
  refine keeps_whenRunning h ?_
  split
  · exact keeps_refuseWrite _ rfl
  · rename_i c hc
    exact .trans (keeps_teardown_row (by simp [Instr.mayTearDown, hc])) (keeps_finishWrite _ _ rfl)

theorem execRevive_keeps {b : Byte} (h : execRevive b s = .next t) : KeepsAllBut (Part.written (.revive b)) s t := by
  refine keeps_whenRunning h ?_
  split
  · exact keeps_refuseWrite _ rfl
  · split
    · exact .trans (keeps_reviveClient _) (keeps_finishWrite _ _ rfl)
    · exact keeps_refuseWrite _ rfl

theorem execStartSurvey_keeps {k : Byte} (h : execStartSurvey k s = .next t) :
    KeepsAllBut (Part.written (.startSurvey k)) s t := by
  refine keeps_whenRunning h ?_
  split
  · exact keeps_refuseWrite _ rfl
  · exact .trans (keeps_survey _ (.inr (.inr (.inr (.inl ⟨k, rfl⟩))))) (keeps_finishWrite _ _ rfl)

theorem execStopSurvey_keeps (h : execStopSurvey s = .next t) : KeepsAllBut (Part.written .stopSurvey) s t := by
  refine keeps_whenRunning h ?_
  refine .trans ?_ (keeps_finishWrite _ _ rfl)
  split
  · exact keeps_survey _ (.inr (.inr (.inr (.inr rfl))))
  · exact .refl s

/-- The arbitration restart keeps the queue, the clock, the policy, the freezes, the line levels and the last record
(R163). -/
theorem execRestart_keeps (h : execRestart s = .next t) : KeepsAllBut (Part.written .restart) s t := by
  refine keeps_whenRunning h ?_
  refine .trans ?_ (keeps_finishWrite _ _ rfl)
  intro p hp
  have base := p.kept_refl s
  cases p with
  | masks => exact absurd (.inr (.inr rfl)) hp
  | draft c => exact absurd (.inl rfl) hp
  | errors c => exact absurd (.inl rfl) hp
  | frozen c => cases c <;> rfl
  | reqLevel c => cases c <;> rfl
  | prioLevel c => cases c <;> rfl
  | binding c => exact absurd (.inl rfl) hp
  | window => exact absurd (.inr (.inr rfl)) hp
  | survey => exact absurd (.inr (.inr (.inl rfl))) hp
  | flows c => exact absurd (.inl rfl) hp
  | bookings => exact fun x hx => absurd hx List.not_mem_nil
  | accounts => exact absurd (.inr (.inr rfl)) hp
  | charge => exact fun _ => rfl
  | penalties => exact fun _ => s.restartAll_fresh.penaltyFollows
  | _ => exact base

theorem execPrioEdge_keeps {c : Client} {x : Bool} (h : execPrioEdge c x s = .next t) :
    KeepsAllBut (Part.written (.prioEdge c x)) s t :=
  keeps_whenRunning h (keeps_onLive_writing c _ (.inr fun _ => rfl) (.inl ⟨x, rfl⟩) (.inr fun _ => rfl))

theorem execStartReached_keeps {W : Part → Prop} {n : Fin 32} (h : execStartReached n s = .next t) :
    KeepsAllBut W s t := keeps_whenRunning h (keeps_wake _)

theorem execSetAttnMask_keeps {m : BitVec 16} (h : execSetAttnMask m s = .next t) :
    KeepsAllBut (Part.written (.setAttnMask m)) s t := by
  refine keeps_whenRunning h ?_
  refine .trans ?_ (keeps_finishWrite _ _ rfl)
  exact keeps_port rfl fun _ => ⟨rfl, rfl⟩

theorem execClearNotices_keeps {m : BitVec 16} (h : execClearNotices m s = .next t) :
    KeepsAllBut (Part.written (.clearNotices m)) s t := by
  refine keeps_whenRunning h ?_
  refine .trans ?_ (keeps_finishWrite _ _ rfl)
  exact keeps_port rfl fun _ => ⟨rfl, rfl⟩

/-- A READ command writes the port's result and readout alone (R164). -/
theorem keeps_readRow {i : Instr} (readout : State → Option (List Byte)) (hi : Instr.isPortWrite i = true)
    (h : (s.whenRunning fun s => s.read (readout s)) = .next t) : KeepsAllBut (Part.written i) s t :=
  keeps_whenRunning h (keeps_read _ hi)

/-- Every row but those of RESETN keeps every part it is not given to write. -/
theorem exec_keeps (i : Instr) (hi : Instr.isReset i = false) (h : exec i s = .next t) :
    KeepsAllBut (Part.written i) s t := by
  cases i with
  | resetEnd _ => exact absurd hi nofun
  | resetnLow => exact absurd hi nofun
  | replyCapture c => exact execReplyCapture_keeps h
  | pause c => exact execPause_keeps h
  | frameRejected c x => exact execFrameRejected_keeps h
  | selectTimeout c => exact execSelectTimeout_keeps h
  | present c v =>
    exact keeps_whenRunning h (keeps_takeFrame c fun u => keeps_ifAdmitted c (keeps_answer c _ _))
  | attach c v => exact execAttach_keeps h
  | detach c v => exact execDetach_keeps h
  | openFlow c v =>
    exact keeps_whenRunning h (keeps_takeFrame c fun u => keeps_ifAdmitted c (keeps_openFlow c _ (.inr (.inl ⟨v, rfl⟩))))
  | closeFlow c v => exact execCloseFlow_keeps h
  | reclass c v => exact execReclass_keeps h
  | bindLive c v => exact execBindLive_keeps h
  | post c v => exact execPost_keeps h
  | retime c v => exact execRetime_keeps h
  | cancel c v => exact execCancel_keeps h
  | channelNote c v => exact execChannelNote_keeps h
  | fetchTime c a => exact keeps_fetch h
  | fetchStatus c a => exact keeps_fetch h
  | fetchNotes c a => exact keeps_fetch h
  | fetchAccount c a => exact keeps_fetch h
  | fetchLast c a => exact keeps_fetch h
  | fetchMask c p a => exact keeps_fetch h
  | fetchFlow c a => exact keeps_fetch h
  | fetchFlowcount c a => exact keeps_fetch h
  | fetchEntry c a => exact keeps_fetch h
  | fetchItemAbove11 c x a => exact keeps_fetch h
  | clearNotes c v => exact execClearNotes_keeps h
  | parameterFrame c k v => exact execParameterFrame_keeps h
  | reservedFrame c k x v => exact keeps_whenRunning h (keeps_takeFrame c fun u => keeps_refuse c _)
  | reqRise c => exact execReqRise_keeps h
  | reqFall c => exact execReqFall_keeps h
  | prioEdge c x => exact execPrioEdge_keeps h
  | agingExpiry c => exact execAgingExpiry_keeps h
  | holdExpiry c => exact execHoldExpiry_keeps h
  | presenceExpiry c => exact execPresenceExpiry_keeps h
  | startReached n => exact execStartReached_keeps h
  | miss n => exact execMiss_keeps h
  | occurrenceEnd n => exact execOccurrenceEnd_keeps h
  | suspendedStep n => exact execSuspendedStep_keeps h
  | oneshotExpired n => exact execOneshotExpired_keeps h
  | guardEndSettling => exact execGuardEndSettling_keeps h
  | guardEndParking => exact execGuardEndParking_keeps h
  | rollover => exact execRollover_keeps h
  | penaltyCrossing => exact execPenaltyCrossing_keeps h
  | setClass k b a f l => exact execSetClass_keeps h
  | setClient b x cap p rank => exact execSetClient_keeps h
  | setWindow n r => exact execSetWindow_keeps h
  | setArbiter g m a p x => exact execSetArbiter_keeps h
  | freezePlan b x => exact execFreezePlan_keeps h
  | pinFlow k x => exact execPinFlow_keeps h
  | unpinFlow k => exact execUnpinFlow_keeps h
  | dropEntry n => exact execDropEntry_keeps h
  | evict b => exact execEvict_keeps h
  | revive b => exact execRevive_keeps h
  | startSurvey k => exact execStartSurvey_keeps h
  | stopSurvey => exact execStopSurvey_keeps h
  | restart => exact execRestart_keeps h
  | setAttnMask m => exact execSetAttnMask_keeps h
  | clearNotices m => exact execClearNotices_keeps h
  | readNotices => exact keeps_readRow (fun s => some s.noticesReadout) rfl h
  | readClient b => exact keeps_readRow (fun s => (clientOfIndex b.toNat).map s.clientReadout) rfl h
  | readAccount b => exact keeps_readRow (fun s => (clientOfIndex b.toNat).map s.accountReadout) rfl h
  | readFlow k => exact keeps_readRow (fun s => (s.flowAt k.toNat).map s.flowReadout) rfl h
  | readEntry n => exact keeps_readRow (fun s => (s.entryAt n.toNat).map entryReadout) rfl h
  | readPlanOrder => exact keeps_readRow (fun s => some s.orderReadout) rfl h
  | readAir => exact keeps_readRow (fun s => some s.airReadout) rfl h
  | readChannel => exact keeps_readRow (fun s => some s.channelReadout) rfl h
  | readSurvey => exact keeps_readRow (fun s => some s.surveyReadout) rfl h
  | discardedWrite x =>
    exact keeps_whenRunning (f := fun s => s.refuseWrite (discardResult x)) h (keeps_refuseWrite _ rfl)
  | emptyWrite => exact keeps_whenRunning (f := fun s => s) h (.refl s)
  | abortedFrameEnd c => exact execAbortedFrameEnd_keeps h
  | selRiseAfterReset c => exact execSelRiseAfterReset_keeps h

end Rows

theorem Instr.isReset_iff (i : Instr) : Instr.isReset i = true ↔ (∃ p, i = .resetEnd p) ∨ i = .resetnLow := by
  constructor
  · intro h
    cases i with
    | resetEnd p => exact .inl ⟨p, rfl⟩
    | resetnLow => exact .inr rfl
    | _ => exact absurd h nofun
  · rintro (⟨p, rfl⟩ | rfl) <;> rfl

/-- Settles O3: each row against the parts it may write. -/
theorem eachBlockChangesOnlyByItsRows : Obligations.EachBlockChangesOnlyByItsRows := by
  intro i s t h
  by_cases hi : Instr.isReset i = true
  · refine ⟨?_, fun hf => absurd (hi.symm.trans hf) nofun⟩
    rcases (Instr.isReset_iff i).mp hi with ⟨p, rfl⟩ | rfl <;> cases h <;> rfl
  · have always : ∀ p : Part, ¬ Part.written i p → p.kept s t := exec_keeps i (by simpa using hi) h
    have kept : ∀ p : Part, Part.written i p ∨ p.kept s t := fun p => or_iff_not_imp_left.mpr (always p)
    have masks := kept .masks
    have draft := fun c => kept (.draft c)
    have errors := fun c => kept (.errors c)
    have reqLevel := fun c => kept (.reqLevel c)
    have binding := fun c => kept (.binding c)
    have window := kept .window
    have survey := kept .survey
    have flows := fun c => (kept (.flows c)).imp_right fun k (hok : s.flowTableOk) => (k hok.1).2
    have bookings := kept .bookings
    simp only [Part.written, Part.kept, or_assoc] at masks draft errors reqLevel binding window survey flows
    simp only [Part.written, Part.kept, bookedIn, Entry.booking, Prod.mk.injEq] at bookings
    exact ⟨always .queue id, fun _ => ⟨always .clock id, always .resetn id, always .straps id, kept .policy, masks,
      kept .portResult, draft, errors, fun c => kept (.frozen c), reqLevel,
      fun c => kept (.prioLevel c), binding, kept .lastRecord, window, survey, flows, bookings⟩⟩

end Sys2Proof.Machine
end


section
namespace Sys2Proof.Machine

/-! ## The accounts under every step -/

/-- The three invariants of the accounts together (R5, R6, R12, R13). -/
def State.accountsOk (s : State) : Prop := s.conserves ∧ s.chargeFollows ∧ s.penaltyFollows

section Accounts

variable {W : Part → Prop} {s t : State}

theorem KeepsAllBut.conserves (h : KeepsAllBut W s t) (ha : ¬ W .accounts) (hc : ¬ W .clock) (hw : ¬ W .window)
    (hs : s.conserves) : t.conserves := SameAccounts.conserves (h .accounts ha) (h .clock hc) (h .window hw).1 hs

/-! ### The rows that start a window -/

theorem execRollover_conserves (hs : s.conserves) (h : execRollover s = .next t) : t.conserves := by
  cases h
  split
  · dsimp only
    split
    · have fresh : s.rolledOver.conserves := by
        refine s.rolledOver_fresh.conserves ?_ ?_ <;> simp only [State.rolledOver, State.setPortNoticeIf_eq]
        · exact hs.1
        · exact hs.2.1
      rw [State.doRollover_eq]
      exact KeepsAllBut.conserves (W := fun _ => False) (keeps_stateCheckIf _) id id id fresh
    · exact hs
  · exact hs

theorem saturate_mem (lo hi x : Nat) (h : lo ≤ hi) : lo ≤ saturate lo hi x ∧ saturate lo hi x ≤ hi := by
  unfold saturate
  omega

theorem execSetWindow_conserves {n r : Byte} (hs : s.conserves) (h : execSetWindow n r s = .next t) :
    t.conserves := by
  cases h
  split
  · have range := saturate_mem 3 255 n.toNat (by decide)
    have fresh : (s.restartWindow (saturate 3 255 n.toNat) (saturate 1 16 r.toNat)).conserves := by
      refine (s.restartWindow_fresh _ _).conserves ?_ ?_ <;>
        simp only [State.restartWindow, State.setPortNoticeIf_eq]
      · exact range.1
      · exact range.2
    refine KeepsAllBut.conserves (W := fun p => p = .portResult) ?_ nofun nofun nofun fresh
    exact .trans keeps_stateCheck (keeps_finishWrite _ _ rfl)
  · exact hs

theorem execRestart_conserves (hs : s.conserves) (h : execRestart s = .next t) : t.conserves := by
  cases h
  split
  · refine KeepsAllBut.conserves (W := fun p => p = .portResult) (keeps_finishWrite _ _ rfl) nofun nofun nofun ?_
    exact s.restartAll_fresh.conserves hs.1 hs.2.1
  · exact hs

/-! ### The rows of RESETN -/

theorem State.powerOn_fresh (pins : ResetPins) (k : Nat) (q : List Instr) : (State.powerOn pins k q).WindowFresh :=
  ⟨rfl, rfl, rfl, rfl, rfl, rfl⟩

theorem State.powerOn_accountsOk (pins : ResetPins) (k : Nat) (q : List Instr) :
    (State.powerOn pins k q).accountsOk :=
  have fresh := State.powerOn_fresh pins k q
  ⟨fresh.conserves (by simp [State.powerOn, Policy.powerOn]) (by simp [State.powerOn, Policy.powerOn]), rfl,
    fresh.penaltyFollows⟩

theorem State.resetHeld_accountsOk (s : State) : s.resetHeld.accountsOk :=
  have fresh : s.resetHeld.WindowFresh := ⟨rfl, rfl, rfl, rfl, rfl, rfl⟩
  ⟨fresh.conserves (by simp [State.resetHeld, State.powerOn, Policy.powerOn])
    (by simp [State.resetHeld, State.powerOn, Policy.powerOn]), rfl, fresh.penaltyFollows⟩

/-- Every row keeps the accounts: the rows that start a window start it with every account at 0, the others charge
nothing otherwise. -/
theorem exec_accountsOk {i : Instr} (hs : s.accountsOk) (h : exec i s = .next t) : t.accountsOk := by
  by_cases hi : Instr.isReset i = true
  · rcases (Instr.isReset_iff i).mp hi with ⟨p, rfl⟩ | rfl <;> cases h
    · exact State.powerOn_accountsOk p _ _
    · exact s.resetHeld_accountsOk
  · have keeps := exec_keeps i (by simpa using hi) h
    obtain ⟨conserves, charge, penalties⟩ := hs
    refine ⟨?_, keeps .charge id charge, keeps .penalties id penalties⟩
    by_cases hw : Part.written i .accounts
    · rcases hw with rfl | ⟨n, r, rfl⟩ | rfl
      · exact execRollover_conserves conserves h
      · exact execSetWindow_conserves conserves h
      · exact execRestart_conserves conserves h
    · exact keeps.conserves hw id hw conserves

/-! ### The tick of the air clock -/

theorem State.elapsed_le_window (h : s.conserves) : s.elapsed ≤ (s.clock - s.acct.windowStart).toNat := by
  obtain ⟨_, _, _, sum⟩ := h
  rw [← sum]
  cases hc : s.acct.charged with
  | usage c => cases c <;> simp [State.usageNow, State.guardNow, State.idleNow, hc] <;> omega
  | guardTime => simp [State.usageNow, State.guardNow, State.idleNow, hc]; omega
  | idleTime => simp [State.usageNow, State.guardNow, State.idleNow, hc]; omega

/-- One microsecond later, a distance short of the clock's whole turn has grown by 1. -/
theorem toNat_succ_sub (a b : AirTime) (h : (a - b).toNat < 4294967295) : (a + 1 - b).toNat = (a - b).toNat + 1 := by
  bv_omega

theorem State.tick_elapsed (h : s.conserves) : s.tick.elapsed = s.elapsed + 1 := by
  have hle := State.elapsed_le_window h
  obtain ⟨_, h255, hw, _⟩ := h
  have short : (s.clock - s.acct.chargeStart).toNat < 4294967295 := by unfold State.elapsed at hle; omega
  exact toNat_succ_sub _ _ short

/-- Before its end the window has room for one microsecond more (R4). -/
theorem State.window_not_full (h : s.conserves) (hr : reached s.clock s.windowEnd = false) :
    (s.clock - s.acct.windowStart).toNat < (s.policy.windowN + 1) * 250 := by
  obtain ⟨_, h255, hw, _⟩ := h
  refine lt_of_le_of_ne hw fun e => ?_
  have full : s.clock = s.windowEnd := by
    unfold State.windowEnd after State.window windowLength Config.windowUnit
    rw [← e, BitVec.ofNat_toNat, BitVec.setWidth_eq]
    bv_omega
  simp [reached, full] at hr

theorem State.tick_usageNow (h : s.conserves) (c : Client) :
    s.tick.usageNow c = s.usageNow c + if s.acct.charged = .usage c then 1 else 0 := by
  simp only [State.usageNow, State.tick_acct, State.tick_elapsed h]
  split <;> omega

theorem State.tick_guardNow (h : s.conserves) :
    s.tick.guardNow = s.guardNow + if s.acct.charged = .guardTime then 1 else 0 := by
  simp only [State.guardNow, State.tick_acct, State.tick_elapsed h]
  split <;> omega

theorem State.tick_idleNow (h : s.conserves) :
    s.tick.idleNow = s.idleNow + if s.acct.charged = .idleTime then 1 else 0 := by
  simp only [State.idleNow, State.tick_acct, State.tick_elapsed h]
  split <;> omega

/-- The microsecond of a tick goes to one account. -/
theorem State.tick_conserves (h : s.conserves) (hr : reached s.clock s.windowEnd = false) : s.tick.conserves := by
  have room := State.window_not_full h hr
  have nr := State.tick_usageNow h .nr
  have sr := State.tick_usageNow h .sr
  have ar := State.tick_usageNow h .ar
  have guardTime := State.tick_guardNow h
  have idleTime := State.tick_idleNow h
  obtain ⟨h3, h255, _, sum⟩ := h
  have short : (s.clock - s.acct.windowStart).toNat < 4294967295 := by omega
  have grown : (s.tick.clock - s.tick.acct.windowStart).toNat = (s.clock - s.acct.windowStart).toNat + 1 :=
    toNat_succ_sub _ _ short
  refine ⟨h3, h255, ?_, ?_⟩
  · rw [grown]; exact room
  · rw [grown, nr, sr, ar, guardTime, idleTime, ← sum]
    cases s.acct.charged with
    | usage c => cases c <;> simp <;> omega
    | guardTime => simp; omega
    | idleTime => simp; omega

/-- The charged client's penalty may lag behind its usage by a crossing, and no other client's usage has moved. -/
theorem State.tick_penaltyFollows (h : s.conserves) (hp : s.penaltyFollows) : s.tick.penaltyFollows := by
  intro c
  have hc := hp c
  have usage := State.tick_usageNow h c
  show if s.acct.charged = .usage c then s.acct.penalty.get c ≤ s.tick.penaltyNow c
    else s.acct.penalty.get c = s.tick.penaltyNow c
  unfold State.penaltyNow at hc ⊢
  by_cases e : s.acct.charged = .usage c
  · rw [if_pos e] at hc ⊢
    exact hc.trans (penaltyOf_mono _ _ _ _ (by omega))
  · rw [if_neg e] at hc usage ⊢
    rw [hc, usage]
    rfl

theorem State.windowEnd_not_reached (h : s.dueEvents = []) : reached s.clock s.windowEnd = false := by
  by_contra hr
  simp [State.dueEvents, hr] at h

end Accounts

/-! ## The step on an empty queue -/

/-- Which of several due events is taken is a free value, but it is one of them (log entry 2). -/
theorem idleStep_of_due {s : State} (hr : s.resetn = true) (hd : s.dueEvents ≠ []) :
    ∃ e ∈ s.dueEvents, ∃ k, idleStep s = exec e { s with freeIndex := k } := by
  unfold idleStep
  rw [if_pos hr]
  split
  · rename_i e; exact absurd e hd
  · rename_i e he; exact ⟨e, by simp [he], s.freeIndex, rfl⟩
  · have hlt : Config.eventChoice s.freeIndex % s.dueEvents.length < s.dueEvents.length :=
      Nat.mod_lt _ (List.length_pos_iff.mpr hd)
    rw [List.getElem?_eq_getElem hlt]
    exact ⟨_, List.getElem_mem hlt, _, rfl⟩

theorem idleStep_of_none {s : State} (hr : s.resetn = true) (hd : s.dueEvents = []) : idleStep s = .next s.tick := by
  simp [idleStep, hr, hd]

theorem idleStep_held {s : State} (hr : s.resetn = false) : idleStep s = .next s := by simp [idleStep, hr]

/-- A step is a row taken on the state but for its queue and its free counter, a tick with no event due, or, with RESETN
low and nothing waiting, nothing. -/
theorem step_cases {s t : State} (h : step s = .next t) :
    (∃ i q k, exec i { s with pending := q, freeIndex := k } = .next t) ∨ (s.dueEvents = [] ∧ t = s.tick) ∨ t = s := by
  unfold step at h
  split at h
  · by_cases hr : s.resetn = true
    · by_cases hd : s.dueEvents = []
      · rw [idleStep_of_none hr hd] at h; cases h; exact .inr (.inl ⟨hd, rfl⟩)
      · obtain ⟨e, _, k, he⟩ := idleStep_of_due hr hd
        exact .inl ⟨e, s.pending, k, he.symm.trans h⟩
    · rw [idleStep_held (by simpa using hr)] at h; cases h; exact .inr (.inr rfl)
  · rename_i c rest _; exact .inl ⟨c, rest, s.freeIndex, h⟩

/-- Settles O54: by the rows and by the tick. -/
theorem everyStepKeepsTheAccounts : Obligations.EveryStepKeepsTheAccounts := by
  intro s t conserves charge penalties h
  rcases step_cases h with ⟨i, q, k, hi⟩ | ⟨hd, rfl⟩ | rfl
  · exact exec_accountsOk (s := { s with pending := q, freeIndex := k }) ⟨conserves, charge, penalties⟩ hi
  · exact ⟨State.tick_conserves conserves (State.windowEnd_not_reached hd), charge,
      State.tick_penaltyFollows conserves penalties⟩
  · exact ⟨conserves, charge, penalties⟩

/-- Settles O2. -/
theorem idleStepTakesADueEventOrTicks : Obligations.IdleStepTakesADueEventOrTicks := by
  intro s hq
  have hs : step s = idleStep s := by simp [step, hq]
  rw [hs]
  exact ⟨idleStep_held, idleStep_of_none, idleStep_of_due⟩

end Sys2Proof.Machine
end


section
namespace Sys2Proof.Machine

/-! ## Reset -/

/-- Settles O4. -/
theorem resetEndLeavesPowerOnValues : Obligations.ResetEndLeavesPowerOnValues := by
  intro p s
  have window : windowLength 79 = 20000 := by decide
  have nr : allowanceOf (windowLength 79) 32 = 10000 := by decide
  have sr : allowanceOf (windowLength 79) 24 = 7500 := by decide
  have ar : allowanceOf (windowLength 79) 8 = 2500 := by decide
  refine ⟨State.powerOn p s.freeIndex s.pending, rfl, rfl, rfl, rfl, window, nr, sr, ar, rfl, rfl, rfl, rfl, rfl, rfl,
    rfl, rfl, rfl, rfl, rfl, rfl, rfl, rfl, rfl, rfl, rfl, rfl, rfl, rfl, rfl, rfl, fun c => ?_, rfl⟩
  cases c <;> exact ⟨rfl, rfl, rfl, rfl, rfl⟩

/-- With every live claim IDLE and the plan empty nobody is on the claim board. -/
theorem State.board_empty {s : State} (hl : ∀ c, (s.live.get c).state = .idle) (hp : s.plan = []) (c : Client) :
    s.waitingClaims c = [] ∧ s.holdingClaims c = [] := by
  simp [State.waitingClaims, State.holdingClaims, State.liveWaiting, State.liveHolding, State.dueSlots,
    State.heldSlots, hl, hp]

theorem State.powerOn_live (pins : ResetPins) (k : Nat) (q : List Instr) (c : Client) :
    ((State.powerOn pins k q).live.get c).state = .idle ∧ ((State.powerOn pins k q).live.get c).binding = none := by
  cases c <;> exact ⟨rfl, rfl⟩

/-- While RESETN is low every row but the two of RESETN changes nothing (log entry 3). -/
theorem exec_held {i : Instr} {s : State} (h : s.resetn = false) (hi : Instr.isReset i = false) :
    exec i s = .next s := by
  cases i with
  | resetEnd p => exact absurd hi nofun
  | resetnLow => exact absurd hi nofun
  | _ => simp only [exec]; exact State.whenRunning_low _ _ h

/-- Settles O5. -/
theorem heldInReset : Obligations.HeldInReset := by
  refine ⟨fun s => ⟨s.resetHeld, rfl, rfl, rfl, rfl, rfl, rfl, rfl, rfl, fun c => ⟨rfl, ?_⟩⟩,
    fun i s h he hl => exec_held h ?_⟩
  · exact State.board_empty (fun c => by cases c <;> rfl) rfl c
  · rw [← Bool.not_eq_true, Instr.isReset_iff]
    rintro (⟨p, rfl⟩ | rfl)
    · exact he p rfl
    · exact hl rfl

theorem Policy.powerOn_inRange : Policy.powerOn.inRange := by
  refine ⟨fun k => ?_, fun c => ?_, fun c d => ?_, by decide⟩
  · cases k <;> exact ⟨by decide, by decide, by decide, by decide⟩
  · cases c <;> decide
  · cases c <;> cases d <;> decide

/-- Every invariant but those of the accounts holds at the end of reset: the tables are empty, nobody is attached, and
the policy stands at its power-on values. -/
theorem State.powerOn_invariants (pins : ResetPins) (k : Nat) (q : List Instr) (s : State)
    (h : s = State.powerOn pins k q) :
    s.conserves ∧ s.chargeFollows ∧ s.penaltyFollows ∧ s.switchFollows ∧ s.policy.inRange ∧ s.flowTableOk ∧
      s.planOk ∧ s.refsOk ∧ s.boardFollows ∧ s.detachedOwnsNothing ∧ s.airOnlyToPresent ∧ s.masksFollow ∧
      s.acct.reviewCount < s.policy.reviewR := by
  subst h
  obtain ⟨conserves, charge, penalties⟩ := State.powerOn_accountsOk pins k q
  have live := State.powerOn_live pins k q
  have noFlow : ∀ f ∈ (State.powerOn pins k q).flows, False := fun f hf => absurd hf List.not_mem_nil
  have noEntry : ∀ e ∈ (State.powerOn pins k q).plan, False := fun e he => absurd he List.not_mem_nil
  refine ⟨conserves, charge, penalties, rfl, Policy.powerOn_inRange, ?_, ?_, ?_, ?_, ?_, ?_, ⟨rfl, nofun⟩,
    Nat.zero_lt_one⟩
  · exact ⟨.nil, fun f hf => (noFlow f hf).elim, fun f hf => (noFlow f hf).elim, fun c => Nat.zero_le _⟩
  · exact ⟨.nil, fun e he => (noEntry e he).elim, fun c => Nat.zero_le _, Nat.zero_le _⟩
  · refine ⟨fun e he => (noEntry e he).elim, fun c => ⟨fun hs => absurd (live c).1 hs, fun k hk => ?_⟩⟩
    exact absurd ((live c).2.symm.trans hk) nofun
  · exact State.board_empty (fun c => (live c).1) rfl
  · intro c _
    exact ⟨fun f hf => (noFlow f hf).elim, fun e he => (noEntry e he).elim, (live c).1, (live c).2,
      by cases c <;> rfl, by cases c <;> rfl⟩
  · exact ⟨fun c _ => ⟨(live c).1, fun e he => (noEntry e he).elim⟩, nofun, nofun⟩

/-- Settles O60. -/
theorem everyInvariantHoldsAtReset : Obligations.EveryInvariantHoldsAtReset :=
  ⟨State.powerOn_invariants, State.powerOn_invariants quietPins 0 [] State.reset rfl⟩

/-! ## The survey's commands -/

theorem Survey.busy_iff (v : Survey) : v.busy = true ↔ v.state ≠ .idle := by simp [Survey.busy]

/-- A byte brought into 1..255 is clamped exactly where it is 0 (R17). -/
theorem saturate_byte (k : Byte) :
    saturate 1 255 k.toNat = max 1 k.toNat ∧ outside 1 255 k.toNat = decide (k = 0) := by
  have hlt := k.isLt
  have zero : k = 0 ↔ k.toNat = 0 := by
    rw [← BitVec.toNat_inj]; rfl
  constructor
  · unfold saturate; omega
  · simp only [outside, zero]
    by_cases h : k.toNat = 0
    · simp [h]
    · have : ¬ k.toNat < 1 ∧ ¬ 255 < k.toNat := by omega
      simp [h, this]

/-- Settles O43. -/
theorem startSurveyArms : Obligations.StartSurveyArms := by
  constructor
  · intro s k hr hidle
    have hb : s.acct.survey.busy = false := by simp [Survey.busy, hidle]
    simp only [exec, execStartSurvey, State.whenRunning_high _ _ hr, hb, saturate_byte k, State.finishWrite_eq,
      clampedIf, decide_eq_true_eq]
    rfl
  · intro s k hr hbusy
    simp only [exec, execStartSurvey, State.whenRunning_high _ _ hr, (Survey.busy_iff _).mpr hbusy,
      State.refuseWrite_eq, if_true]

theorem execStopSurvey_busy {s : State} (hr : s.resetn = true) (h : s.acct.survey.state ≠ .idle) :
    exec .stopSurvey s = .next { s with
      acct := { s.acct with survey := { s.acct.survey with state := .idle, summed := 0, sums := .zero } }
      port := s.port.wrote .ok [] } := by
  simp only [exec, execStopSurvey, State.whenRunning_high _ _ hr, (Survey.busy_iff _).mpr h, if_true,
    State.finishWrite_eq, Survey.toIdle]

theorem execStopSurvey_idle {s : State} (hr : s.resetn = true) (h : s.acct.survey.state = .idle) :
    exec .stopSurvey s = .next { s with port := s.port.wrote .ok [] } := by
  have hb : s.acct.survey.busy = false := by simp [Survey.busy, h]
  simp [exec, execStopSurvey, State.whenRunning_high _ _ hr, hb, State.finishWrite_eq]

end Sys2Proof.Machine
end


section
namespace Sys2Proof.Machine

/-! ## A fresh window and the answer that follows it -/

section FreshWindow

variable {s t u : State}

theorem State.penalty_zero (h : s.penaltyFollows) {c : Client} (hu : s.usageNow c = 0) : s.acct.penalty.get c = 0 := by
  have hc := h c
  simp only [State.penaltyNow, hu, penaltyOf_zero] at hc
  split at hc
  · exact Nat.le_zero.mp hc
  · exact hc

/-- What follows a window's start without charging anything leaves every account and penalty at 0. -/
theorem KeepsAllBut.fresh_accounts {W : Part → Prop} (k : KeepsAllBut W u t) (ha : ¬ W .accounts)
    (hp : ¬ W .penalties) (h : u.WindowFresh) :
    (∀ c, t.usageNow c = 0 ∧ t.acct.penalty.get c = 0) ∧ t.guardNow = 0 ∧ t.idleNow = 0 := by
  obtain ⟨_, _, usage, guardTime, idleTime⟩ := k .accounts ha
  have zero (c : Client) : t.usageNow c = 0 := (usage c).trans (h.usageNow c)
  exact ⟨fun c => ⟨zero c, State.penalty_zero (k .penalties hp h.penaltyFollows) (zero c)⟩,
    guardTime.trans h.guardNow, idleTime.trans h.idleNow⟩

@[simp] theorem State.giveNoticeIf_acct (s : State) (p : Bool) (c : Client) (n : Notice) :
    (s.giveNoticeIf p c n).acct = s.acct := by
  cases p <;> simp [State.giveNoticeIf]

@[simp] theorem State.cutHoldings_acct (s : State) (c : Client) : (s.cutHoldings c).acct = s.acct := by
  simp [State.cutHoldings]

/-- The arbiter counts neither misses nor overstays (R7). -/
theorem arbiterClosed_counts :
    ArbiterClosed fun s t => t.acct.misses = s.acct.misses ∧ t.acct.overstays = s.acct.overstays where
  refl _ := ⟨rfl, rfl⟩
  trans h k := ⟨k.1.trans h.1, k.2.trans h.2⟩
  setMode s m := by
    obtain ⟨_, _, misses, overstays, _⟩ := s.setMode_window m
    exact ⟨misses, overstays⟩
  setPosition _ _ := ⟨rfl, rfl⟩
  turnHolding _ _ := ⟨rfl, rfl⟩
  cutHoldings s c := by simp
  countPreemption _ := ⟨rfl, rfl⟩

theorem State.stateCheckIf_keeps (s : State) (p : Bool) : ArbiterKeeps s (s.stateCheckIf p) := by
  cases p
  · exact .refl s
  · exact s.stateCheck_keeps

end FreshWindow

/-! ## The rollover -/

section Rollover

variable {s t : State}

theorem exec_rollover_due (hr : s.resetn = true) (hd : reached s.clock s.windowEnd = true) :
    exec .rollover s = .next (s.rolledOver.stateCheckIf s.waitingPenalised) := by
  simp only [exec, execRollover, State.whenRunning_high _ _ hr, hd, if_true, State.doRollover_eq]

/-- Before the window's end nothing happens (log entry 5). -/
theorem exec_rollover_early (hd : reached s.clock s.windowEnd = false) : exec .rollover s = .next s := by
  simp [exec, execRollover, State.whenRunning, hd]

theorem State.reviewDue_iff (s : State) : s.reviewDue = true ↔ s.policy.reviewR ≤ s.acct.reviewCount + 1 := by
  simp [State.reviewDue]

theorem Survey.completes_iff (v : Survey) : v.completes = true ↔ v.state = .running ∧ v.k ≤ v.summed + 1 := by
  simp [Survey.completes]

theorem State.waitingPenalised_iff (s : State) :
    s.waitingPenalised = true ↔ ∃ c, s.waitingClaims c ≠ [] ∧ s.acct.penalty.get c ≠ 0 := by
  have all (c : Client) : c ∈ clientList := by cases c <;> decide
  simp [State.waitingPenalised, State.isWaiting, all, Nat.pos_iff_ne_zero]

/-- The state a rollover leaves before the check it may bring, as one record update (R8, R9, R16, R18). -/
theorem State.rolledOver_eq (s : State) :
    s.rolledOver = { s with
      acct := { s.acct with
        windowStart := s.clock, usage := ⟨0, 0, 0⟩, guardTime := 0, idleTime := 0, preemptions := 0
        misses := 0, overstays := 0, chargeStart := s.clock, penalty := ⟨0, 0, 0⟩, last := s.windowRecord
        reviewCount := if s.policy.reviewR ≤ s.acct.reviewCount + 1 then 0 else s.acct.reviewCount + 1
        survey := s.acct.survey.advance s.windowRecord }
      port := { s.port with flags := s.port.flags |||
        (if s.policy.reviewR ≤ s.acct.reviewCount + 1 then 0x040 else 0x000) |||
        if s.acct.survey.state = .running ∧ s.acct.survey.k ≤ s.acct.survey.summed + 1 then 0x080 else 0x000 } } := by
  simp only [State.rolledOver, State.setPortNoticeIf_eq, State.reviewDue_iff, Survey.completes_iff]
  rfl

theorem Survey.advance_idle {v : Survey} (h : v.state = .idle) (r : WindowRecord) : v.advance r = v := by
  simp [Survey.advance, h]

theorem Survey.advance_armed {v : Survey} (h : v.state = .armed) (r : WindowRecord) :
    v.advance r = { v with state := .running } := by simp [Survey.advance, h]

theorem Survey.advance_running {v : Survey} (h : v.state = .running) (hk : v.summed + 1 < v.k) (r : WindowRecord) :
    v.advance r = { v with summed := v.summed + 1, sums := v.sums.add r } := by
  have : v.completes = false := by simp [Survey.completes, hk]
  simp [Survey.advance, h, this]

theorem Survey.advance_completing {v : Survey} (h : v.state = .running) (hk : v.k ≤ v.summed + 1)
    (r : WindowRecord) :
    v.advance r =
      { state := .idle, k := v.k, summed := 0, sums := .zero, resultWindows := v.k, resultLength := r.length
        result := v.sums.add r } := by
  simp [Survey.advance, h, (v.completes_iff).mpr ⟨h, hk⟩]

/-- What a rollover leaves, the check it may bring included: the window's record and the survey's step stand, every
account, penalty and count of the new window is 0. -/
structure RolledOver (s t : State) : Prop where
  keeps : KeepsAllBut (fun _ => False) s.rolledOver t
  accounts : (∀ c, t.usageNow c = 0 ∧ t.acct.penalty.get c = 0) ∧ t.guardNow = 0 ∧ t.idleNow = 0
  counts : t.acct.misses = 0 ∧ t.acct.overstays = 0
  port : t.port = s.rolledOver.port
  windowStart : t.acct.windowStart = s.clock
  last : t.acct.last = s.windowRecord
  survey : t.acct.survey = s.acct.survey.advance s.windowRecord
  reviewCount : t.acct.reviewCount =
    if s.policy.reviewR ≤ s.acct.reviewCount + 1 then 0 else s.acct.reviewCount + 1
  policy : t.policy = s.policy

theorem rolledOver_check (s : State) (p : Bool) : RolledOver s (s.rolledOver.stateCheckIf p) := by
  have keeps : KeepsAllBut (fun _ => False) s.rolledOver (s.rolledOver.stateCheckIf p) := keeps_stateCheckIf p
  have counts := arbiterClosed_counts.stateCheckIf s.rolledOver p
  have accounts := keeps.fresh_accounts id id s.rolledOver_fresh
  have port := (s.rolledOver.stateCheckIf_keeps p).port
  generalize s.rolledOver.stateCheckIf p = t at *
  have last := keeps .lastRecord id
  have window := keeps .window id
  have survey := keeps .survey id
  have policy := keeps .policy id
  simp only [Part.kept, State.rolledOver_eq s] at last window survey policy counts
  exact ⟨keeps, accounts, counts, port, window.1, last, survey, window.2, policy⟩

theorem RolledOver.flags (h : RolledOver s t) :
    t.port = { s.port with flags := s.port.flags |||
      (if s.policy.reviewR ≤ s.acct.reviewCount + 1 then 0x040 else 0x000) |||
      if s.acct.survey.state = .running ∧ s.acct.survey.k ≤ s.acct.survey.summed + 1 then 0x080 else 0x000 } := by
  rw [h.port, State.rolledOver_eq]

/-- SURVEY-DONE stands after the rollover that completes a survey (R19). -/
theorem RolledOver.surveyDone (h : RolledOver s t) (hv : s.acct.survey.state = .running)
    (hk : s.acct.survey.k ≤ s.acct.survey.summed + 1) : t.port.flags.getLsbD 7 = true := by
  rw [h.flags]
  simp [hv, hk]

end Rollover

/-- Settles O41. -/
theorem rolloverClosesTheWindow : Obligations.RolloverClosesTheWindow := by
  refine ⟨fun s hr hd => ?_, fun s hd => exec_rollover_early hd⟩
  have r := rolledOver_check s s.waitingPenalised
  refine ⟨_, exec_rollover_due hr hd, r.windowStart, r.last, r.accounts.1, r.accounts.2.1, r.accounts.2.2, r.counts.1,
    r.counts.2, r.policy, fun hv => ?_, fun hv => ?_, fun hv hk => ?_, fun hv hk => ⟨?_, r.surveyDone hv hk⟩,
    fun hw => ?_, r.flags, fun hw => ?_⟩
  · rw [r.survey, Survey.advance_idle hv]
  · rw [r.survey, Survey.advance_armed hv]
  · rw [r.survey, Survey.advance_running hv hk, r.last]
  · rw [r.survey, Survey.advance_completing hv hk, r.last]
    rfl
  · have none : s.waitingPenalised = false := by
      rw [← Bool.not_eq_true, State.waitingPenalised_iff]
      rintro ⟨c, hc, hp⟩
      exact hp (hw c hc)
    simp only [none, State.stateCheckIf, State.rolledOver_eq s]
    exact ⟨rfl, rfl, rfl⟩
  · rw [r.last, r.survey, r.flags, (State.waitingPenalised_iff s).mpr hw, State.stateCheckIf, if_pos rfl,
      State.rolledOver_eq s]

/-- Settles O44: STOP SURVEY before the completing rollover leaves it nothing to complete, after it nothing to stop. -/
theorem stopSurveyKeepsTheResult : Obligations.StopSurveyKeepsTheResult := by
  refine ⟨fun s => execStopSurvey_busy, fun s => execStopSurvey_idle, fun s hr hd hv hk => ⟨?_, ?_⟩⟩
  · have r := rolledOver_check s s.waitingPenalised
    have survey := r.survey
    rw [Survey.advance_completing hv hk, ← r.last] at survey
    have idle := congrArg Survey.state survey
    have high : s.rolledOver.resetn = true := by rw [State.rolledOver_eq]; exact hr
    exact ⟨_, _, exec_rollover_due hr hd, idle, congrArg Survey.result survey, r.surveyDone hv hk,
      execStopSurvey_idle ((r.keeps .resetn id).trans high) idle, rfl⟩
  · have busy : s.acct.survey.state ≠ .idle := by simp [hv]
    refine ⟨_, _, execStopSurvey_busy hr busy, rfl, rfl, exec_rollover_due hr hd, ?_, ?_⟩
    · exact (rolledOver_check _ _).survey.trans (Survey.advance_idle rfl _)
    · rw [(rolledOver_check _ _).flags]
      simp only [Port.wrote, BitVec.getLsbD_or, BitVec.getLsbD_and]
      split <;> simp

end Sys2Proof.Machine
end


section
namespace Sys2Proof.Machine

/-! ## The arbiter reads nothing of the platform port -/

/-- The state with another platform port. -/
def State.withPort (s : State) (p : Port) : State := { s with port := p }

section WithPort

variable (s t : State) (p : Port)

@[simp] theorem State.withPort_arb : (s.withPort p).arb = s.arb := rfl
@[simp] theorem State.withPort_acct : (s.withPort p).acct = s.acct := rfl
@[simp] theorem State.withPort_policy : (s.withPort p).policy = s.policy := rfl
@[simp] theorem State.withPort_pick (ok : Client → Bool) : (s.withPort p).pick ok = s.pick ok := rfl
@[simp] theorem State.withPort_waitingClaims (c : Client) : (s.withPort p).waitingClaims c = s.waitingClaims c := rfl
@[simp] theorem State.withPort_waitingWeight (c : Client) : (s.withPort p).waitingWeight c = s.waitingWeight c := rfl
@[simp] theorem State.withPort_holdingWeight (c : Client) : (s.withPort p).holdingWeight c = s.holdingWeight c := rfl
@[simp] theorem State.withPort_shielded (c : Client) : (s.withPort p).shielded c = s.shielded c := rfl
@[simp] theorem State.withPort_guardStarted : (s.withPort p).guardStarted (t.withPort p) = s.guardStarted t := rfl
@[simp] theorem State.withPort_guardReached : (t.withPort p).guardReached = t.guardReached := rfl

theorem State.withPort_setMode (m : ArbiterMode) : (s.withPort p).setMode m = (s.setMode m).withPort p := by
  unfold State.setMode
  rw [apply_ite (State.withPort · p)]
  rfl

theorem State.withPort_settleToward (c : Client) :
    (s.withPort p).settleToward c = (s.settleToward c).withPort p :=
  congrArg (State.setPosition · c) (s.withPort_setMode p (.settling c s.newGuard))

theorem State.withPort_grant (c : Client) : (s.withPort p).grant c = (s.grant c).withPort p :=
  congrArg (State.turnHolding · c) (s.withPort_setMode p (.held c))

theorem State.withPort_giveNotice (c : Client) (n : Notice) :
    (s.withPort p).giveNotice c n = (s.giveNotice c n).withPort p := by
  unfold State.giveNotice
  rw [apply_ite (State.withPort · p)]
  rfl

theorem State.withPort_giveNoticeIf (q : Bool) (c : Client) (n : Notice) :
    (s.withPort p).giveNoticeIf q c n = (s.giveNoticeIf q c n).withPort p := by
  cases q
  · rfl
  · exact s.withPort_giveNotice p c n

theorem State.withPort_cutHoldings (c : Client) :
    (s.withPort p).cutHoldings c = (s.cutHoldings c).withPort p := by
  unfold State.cutHoldings
  dsimp only
  rw [← State.withPort_giveNoticeIf, ← State.withPort_giveNotice]
  rfl

theorem State.withPort_displacementCheck :
    (s.withPort p).displacementCheck = s.displacementCheck.withPort p := by
  unfold State.displacementCheck
  simp only [State.withPort_arb, State.withPort_pick, State.withPort_waitingWeight, State.withPort_policy,
    State.withPort_settleToward]
  split
  · split
    · split <;> rfl
    · rfl
  · rfl

theorem State.withPort_preempt (h d : Client) : (s.withPort p).preempt h d = (s.preempt h d).withPort p := by
  have cut : (((s.withPort p).cutHoldings h).countPreemption).settleToward d =
      (((s.cutHoldings h).countPreemption).settleToward d).withPort p := by
    rw [State.withPort_cutHoldings, ← State.withPort_settleToward]
    rfl
  unfold State.preempt
  simp only [cut, State.withPort_waitingClaims, State.withPort_displacementCheck]
  split <;> rfl

theorem State.withPort_preemptionCheck : (s.withPort p).preemptionCheck = s.preemptionCheck.withPort p := by
  unfold State.preemptionCheck
  simp only [State.withPort_arb, State.withPort_pick, State.withPort_holdingWeight, State.withPort_policy,
    State.withPort_shielded, State.withPort_preempt]
  split
  · split
    · split <;> rfl
    · rfl
  · rfl

theorem State.withPort_endGuard : (s.withPort p).endGuard = s.endGuard.withPort p := by
  unfold State.endGuard
  simp only [State.withPort_arb, State.withPort_grant, State.withPort_setMode]
  split <;> rfl

theorem State.withPort_passZeroGuard :
    (s.withPort p).passZeroGuard (t.withPort p) = (s.passZeroGuard t).withPort p := by
  unfold State.passZeroGuard
  simp only [State.withPort_policy, State.withPort_guardStarted, State.withPort_guardReached, State.withPort_endGuard]
  split <;> rfl

/-- The check of the arbiter's state reads nothing of the port and leaves it as it is. -/
theorem State.withPort_stateCheck : (s.withPort p).stateCheck = s.stateCheck.withPort p := by
  unfold State.stateCheck
  simp only [State.withPort_arb, State.withPort_preemptionCheck, State.withPort_displacementCheck]
  split <;> exact State.withPort_passZeroGuard s _ p

end WithPort

end Sys2Proof.Machine
end


section
namespace Sys2Proof.Machine

/-! ## The window restart and the arbitration restart -/

section Restarts

variable {s t : State}

/-- The state a window restart leaves, as one record update (R10, R21). -/
theorem State.restartWindow_eq (s : State) (n r : Nat) :
    s.restartWindow n r = State.withPort { s with
      policy := { s.policy with windowN := n, reviewR := r }
      acct := { s.acct with
        windowStart := s.clock, usage := ⟨0, 0, 0⟩, guardTime := 0, idleTime := 0, preemptions := 0
        misses := 0, overstays := 0, charged := accountOf s.arb.mode, chargeStart := s.clock
        penalty := ⟨0, 0, 0⟩, reviewCount := 0
        survey := if s.acct.survey.state = .idle then s.acct.survey
          else { s.acct.survey with state := .idle, summed := 0, sums := .zero } } }
      { s.port with flags := s.port.flags ||| if s.acct.survey.state = .idle then 0 else 0x100 } := by
  by_cases h : s.acct.survey.state = .idle <;>
    simp [State.restartWindow, Survey.busy, h, Accountant.freshWindow, PerClient.all, Survey.toIdle, portBit,
      State.withPort]

theorem exec_setWindow (n r : Byte) (hr : s.resetn = true) :
    exec (.setWindow n r) s = .next
      (((s.restartWindow (saturate 3 255 n.toNat) (saturate 1 16 r.toNat)).stateCheck).finishWrite
        (clampedIf (outside 3 255 n.toNat || outside 1 16 r.toNat)) []) := by
  simp only [exec, execSetWindow, State.whenRunning_high _ _ hr]

theorem exec_restart (hr : s.resetn = true) : exec .restart s = .next (s.restartAll.finishWrite .ok []) := by
  simp only [exec, execRestart, State.whenRunning_high _ _ hr]

/-- What a SET WINDOW writes after its window restart: the port's result. -/
theorem keeps_setWindow_answer (u : State) (r : PortResult) :
    KeepsAllBut (fun p => p = .portResult) u (u.stateCheck.finishWrite r []) :=
  .trans keeps_stateCheck (keeps_finishWrite _ _ rfl)

end Restarts

/-! ## The review count -/

/-- A rollover's step of the review count and of REVIEW (R16). -/
theorem rollover_review {s t : State} (hr : s.resetn = true) (hd : reached s.clock s.windowEnd = true)
    (h : exec .rollover s = .next t) :
    (s.acct.reviewCount + 1 < s.policy.reviewR → t.acct.reviewCount = s.acct.reviewCount + 1 ∧
      t.port.flags.getLsbD 6 = s.port.flags.getLsbD 6) ∧
    (s.policy.reviewR ≤ s.acct.reviewCount + 1 → t.acct.reviewCount = 0 ∧ t.port.flags.getLsbD 6 = true) := by
  have r := rolledOver_check s s.waitingPenalised
  rw [exec_rollover_due hr hd] at h
  cases h
  rw [r.reviewCount, r.flags]
  refine ⟨fun hlt => ?_, fun hle => ?_⟩
  · rw [if_neg (by omega), if_neg (by omega)]
    refine ⟨rfl, ?_⟩
    simp only [BitVec.getLsbD_or]
    split <;> simp
  · rw [if_pos hle, if_pos hle]
    refine ⟨rfl, ?_⟩
    simp only [BitVec.getLsbD_or]
    split <;> simp

theorem setWindow_review {s t : State} {n r : Byte} (hr : s.resetn = true) (h : exec (.setWindow n r) s = .next t) :
    t.policy.reviewR = max 1 (min 16 r.toNat) ∧ t.acct.reviewCount = 0 := by
  rw [exec_setWindow n r hr] at h
  cases h
  have k := keeps_setWindow_answer (s.restartWindow (saturate 3 255 n.toNat) (saturate 1 16 r.toNat))
    (clampedIf (outside 3 255 n.toNat || outside 1 16 r.toNat))
  refine ⟨(k .accounts nofun).2.1.trans ?_, (k .window nofun).2.trans ?_⟩ <;> (rw [State.restartWindow_eq]; rfl)

theorem restart_review {s t : State} (hr : s.resetn = true) (h : exec .restart s = .next t) :
    t.policy.reviewR = s.policy.reviewR ∧ t.acct.reviewCount = 0 := by
  rw [exec_restart hr] at h
  cases h
  exact ⟨rfl, rfl⟩

/-- Every row keeps the review count below R (R16). -/
theorem exec_reviewCount_lt {i : Instr} {s t : State}
    (hc : s.acct.reviewCount < s.policy.reviewR) (h : exec i s = .next t) : t.acct.reviewCount < t.policy.reviewR := by
  by_cases hi : Instr.isReset i = true
  · rcases (Instr.isReset_iff i).mp hi with ⟨p, rfl⟩ | rfl <;> cases h <;> exact Nat.zero_lt_one
  by_cases hr : s.resetn = true
  · by_cases hw : Part.written i .window
    · rcases hw with rfl | ⟨n, r, rfl⟩ | rfl
      · by_cases hd : reached s.clock s.windowEnd = true
        · obtain ⟨next, last⟩ := rollover_review hr hd h
          have kept : t.policy = s.policy := exec_keeps .rollover rfl h .policy nofun
          rw [kept]
          by_cases hlt : s.acct.reviewCount + 1 < s.policy.reviewR
          · rw [(next hlt).1]; exact hlt
          · rw [(last (by omega)).1]; omega
        · rw [exec_rollover_early (by simpa using hd)] at h
          cases h; exact hc
      · obtain ⟨stored, zero⟩ := setWindow_review hr h
        omega
      · obtain ⟨kept, zero⟩ := restart_review hr h
        omega
    · have keeps := exec_keeps i (by simpa using hi) h
      rw [(keeps .window hw).2, (keeps .accounts hw).2.1]
      exact hc
  · rw [exec_held (by simpa using hr) (by simpa using hi)] at h
    cases h; exact hc

/-- Settles O42. -/
theorem reviewNoticeEveryRthRollover : Obligations.ReviewNoticeEveryRthRollover := by
  refine ⟨fun s t => rollover_review, fun s t _ hc h => ?_, fun p s t h => ?_, fun s t => restart_review,
    fun s t n r => setWindow_review⟩
  · rcases step_cases h with ⟨i, q, k, hi⟩ | ⟨_, rfl⟩ | rfl
    · exact exec_reviewCount_lt (s := { s with pending := q, freeIndex := k }) hc hi
    · exact hc
    · exact hc
  · cases h; exact ⟨rfl, rfl⟩

/-! ## SET WINDOW -/

theorem outside_iff (lo hi x : Nat) : outside lo hi x = true ↔ x < lo ∨ hi < x := by simp [outside]

/-- SET WINDOW answers CLAMPED exactly for an N below 3 or an R outside 1..16 (R156, R161). -/
theorem setWindow_clamped (n r : Byte) :
    clampedIf (outside 3 255 n.toNat || outside 1 16 r.toNat) =
      if n.toNat < 3 ∨ r.toNat < 1 ∨ 16 < r.toNat then .clamped else .ok := by
  have := n.isLt
  have e : (outside 3 255 n.toNat || outside 1 16 r.toNat) = true ↔ n.toNat < 3 ∨ r.toNat < 1 ∨ 16 < r.toNat := by
    rw [Bool.or_eq_true, outside_iff, outside_iff]; omega
  simp only [clampedIf, e]

/-- What a SET WINDOW leaves, its answer and the arbiter's check included (R10, R21, R161). -/
structure WindowRestarted (s u t : State) (res : PortResult) : Prop where
  keeps : KeepsAllBut (fun p => p = .portResult) u t
  accounts : (∀ c, t.usageNow c = 0 ∧ t.acct.penalty.get c = 0) ∧ t.guardNow = 0 ∧ t.idleNow = 0
  counts : t.acct.misses = u.acct.misses ∧ t.acct.overstays = u.acct.overstays
  port : t.port = u.port.wrote res []
  check : t = { u.stateCheck with port := t.port }

theorem windowRestarted {u : State} (h : u.WindowFresh) (s : State) (res : PortResult) :
    WindowRestarted s u (u.stateCheck.finishWrite res []) res := by
  have k := keeps_setWindow_answer u res
  refine ⟨k, k.fresh_accounts nofun nofun h, arbiterClosed_counts.stateCheck u, ?_, rfl⟩
  rw [State.finishWrite_eq, u.stateCheck_keeps.port]

/-- Settles O48. -/
theorem setWindowRestartsTheWindow : Obligations.SetWindowRestartsTheWindow := by
  intro s n r hr
  refine ⟨_, exec_setWindow n r hr, ?_⟩
  rw [setWindow_clamped]
  generalize (if n.toNat < 3 ∨ r.toNat < 1 ∨ 16 < r.toNat then PortResult.clamped else .ok) = res
  have fresh := s.restartWindow_fresh (saturate 3 255 n.toNat) (saturate 1 16 r.toNat)
  have hu := s.restartWindow_eq (saturate 3 255 n.toNat) (saturate 1 16 r.toNat)
  generalize s.restartWindow (saturate 3 255 n.toNat) (saturate 1 16 r.toNat) = u at fresh hu ⊢
  obtain ⟨keeps, ⟨usage, guardTime, idleTime⟩, counts, port, check⟩ := windowRestarted fresh s res
  have atRest (h : s.atRest) : u.stateCheck = u := u.stateCheck_rest (by rw [hu]; exact h)
  generalize u.stateCheck.finishWrite res [] = t at *
  have policy : t.policy = _ := keeps .policy nofun
  have last := keeps .lastRecord nofun
  have window := keeps .window nofun
  have survey := keeps .survey nofun
  simp only [Part.kept] at last window survey
  subst hu
  have idle : t.acct.survey.state = .idle ∧ t.acct.survey.k = s.acct.survey.k ∧
      t.acct.survey.result = s.acct.survey.result ∧
      t.acct.survey.resultWindows = s.acct.survey.resultWindows ∧
      t.acct.survey.resultLength = s.acct.survey.resultLength := by
    rw [survey, State.withPort_acct]
    by_cases h : s.acct.survey.state = .idle <;> simp [h]
  refine ⟨policy, window.1, usage, guardTime, idleTime, counts.1, counts.2, last, window.2, idle.1, idle.2.1,
    idle.2.2.1, idle.2.2.2.1, idle.2.2.2.2, port, fun h => ?_, ?_⟩
  · rw [atRest h] at check
    rw [check]
    exact ⟨rfl, rfl, rfl⟩
  · rw [State.withPort_stateCheck] at check
    rw [policy]
    exact check

/-! ## RESTART -/

/-- A frame in progress goes on over an arbitration restart, its announcement set again; any other receive state stays
as it is (R148, R154). -/
theorem Link.restarted_receive (l : Link) :
    (∀ d w a g, l.receive = .inFrame d w a g → l.restarted.receive = .inFrame d w a true) ∧
      ((∀ d w a g, l.receive ≠ .inFrame d w a g) → l.restarted.receive = l.receive) := by
  refine ⟨fun d w a g h => by simp [Link.restarted, h], fun h => ?_⟩
  unfold Link.restarted
  dsimp only
  split
  · rename_i d w a g e; exact absurd e (h d w a g)
  · rfl

theorem State.restartAll_client (s : State) (c : Client) :
    s.restartAll.sup.get c = { s.sup.get c with state := .detached, deadline := none } ∧
      s.restartAll.live.get c = { s.live.get c with state := .idle, binding := none } ∧
      s.restartAll.links.get c = (s.links.get c).restarted := by
  cases c <;> exact ⟨rfl, rfl, rfl⟩

/-- The arbiter after a restart is parked or FREE, so no grant line is high (R92, R108). -/
theorem State.restartArbiter_not_held (s : State) (c : Client) : s.restartArbiter.mode ≠ .held c := by
  unfold State.restartArbiter
  split
  · split <;> simp
  · split <;> simp

theorem State.restartArbiter_kept {s : State} {g : AirTime} (hp : s.arb.position = s.policy.defaultPos)
    (hg : s.arb.mode.guardEnd = some g) : s.restartArbiter = ⟨.parking g, s.arb.position⟩ := by
  simp [State.restartArbiter, hp, hg]

theorem State.restartArbiter_free {s : State} (hp : s.arb.position = s.policy.defaultPos)
    (hg : s.arb.mode.guardEnd = none) : s.restartArbiter = ⟨.free, s.arb.position⟩ := by
  simp [State.restartArbiter, hp, hg]

theorem State.restartArbiter_moved {s : State} (hp : s.arb.position ≠ s.policy.defaultPos)
    (hg : s.policy.guardTime ≠ 0) : s.restartArbiter = ⟨.parking s.newGuard, s.policy.defaultPos⟩ := by
  simp [State.restartArbiter, hp, hg]

theorem State.restartArbiter_moved_zero {s : State} (hp : s.arb.position ≠ s.policy.defaultPos)
    (hg : s.policy.guardTime = 0) : s.restartArbiter = ⟨.free, s.policy.defaultPos⟩ := by
  simp [State.restartArbiter, hp, hg]

/-- Settles O50. -/
theorem restartClearsTheBlocks : Obligations.RestartClearsTheBlocks := by
  intro s hr
  have fresh := s.restartAll_fresh
  have arb : s.restartAll.arb = s.restartArbiter := rfl
  have charged : s.restartAll.acct.charged = accountOf s.restartArbiter.mode := rfl
  refine ⟨_, (exec_restart hr).trans (congrArg _ (State.finishWrite_eq _ _ _)), rfl, rfl, rfl, rfl, rfl,
    fun c => ?_, rfl, fresh.guardNow, fresh.idleNow, rfl, rfl, rfl, rfl, rfl, rfl, fun hp hg => ?_, fun hp hg => ?_,
    fun g hp hg => ?_, fun hp hg => ?_⟩
  · obtain ⟨sup, live, links⟩ := s.restartAll_client c
    have receive := (s.links.get c).restarted_receive
    have penalty : s.restartAll.acct.penalty.get c = 0 := by rw [fresh.penalty, PerClient.get_all]
    have low : s.restartAll.gnt c = false := by
      simp [State.gnt, arb, State.restartArbiter_not_held]
    dsimp only
    rw [links]
    exact ⟨sup, live, rfl, rfl, rfl, rfl, rfl, fresh.usageNow c, penalty, low, receive⟩
  · exact ⟨State.restartArbiter_moved hp hg, by rw [charged, State.restartArbiter_moved hp hg]; rfl⟩
  · exact ⟨State.restartArbiter_moved_zero hp hg, by rw [charged, State.restartArbiter_moved_zero hp hg]; rfl⟩
  · exact ⟨State.restartArbiter_kept hp hg, by rw [charged, State.restartArbiter_kept hp hg]; rfl⟩
  · exact ⟨State.restartArbiter_free hp hg, by rw [charged, State.restartArbiter_free hp hg]; rfl⟩

end Sys2Proof.Machine
end


section
namespace Sys2Proof.Machine

/-! ## The largest of some weights, and the pick -/

/-- The model's largest weight is the list's maximum. -/
theorem largest_eq_max? (ws : List Nat) : largest ws = ws.max? := by
  have fold (ws : List Nat) (m : Nat) :
      ws.foldl (fun m w => some (max w (m.getD 0))) (some m) = some (ws.foldl max m) := by
    induction ws generalizing m with
    | nil => rfl
    | cons w ws ih => rw [List.foldl_cons, ih, List.foldl_cons, Option.getD_some, max_comm]
  cases ws with
  | nil => rfl
  | cons w ws =>
    rw [largest, List.foldl_cons, fold, List.max?_cons', Option.getD_none, Nat.max_zero]

theorem largest_eq_some_iff (ws : List Nat) (m : Nat) : largest ws = some m ↔ m ∈ ws ∧ ∀ w ∈ ws, w ≤ m := by
  rw [largest_eq_max?]
  exact List.max?_eq_some_iff

theorem largest_eq_none_iff (ws : List Nat) : largest ws = none ↔ ws = [] := by
  rw [largest_eq_max?, List.max?_eq_none_iff]

/-- A member is at most the largest, where 0 stands for the largest of nothing. -/
theorem le_largest_getD {ws : List Nat} {w : Nat} (h : w ∈ ws) : w ≤ (largest ws).getD 0 := by
  cases hl : largest ws with
  | none => rw [(largest_eq_none_iff ws).mp hl] at h; exact absurd h List.not_mem_nil
  | some m => exact ((largest_eq_some_iff ws m).mp hl).2 w h

theorem State.waitingWeight_eq_none_iff (s : State) (c : Client) :
    s.waitingWeight c = none ↔ s.waitingClaims c = [] := by
  rw [State.waitingWeight, largest_eq_none_iff, List.map_eq_nil_iff]

/-- One client considered in the pick (R93). -/
def State.pickStep (s : State) (ok : Client → Bool) (best : Option (Client × Nat)) (c : Client) :
    Option (Client × Nat) :=
  match s.waitingWeight c with
  | none => best
  | some w => if ok c && s.outranks c w best then some (c, w) else best

theorem State.pick_eq_steps (s : State) (ok : Client → Bool) :
    s.pick ok = s.pickStep ok (s.pickStep ok (s.pickStep ok none .nr) .sr) .ar := rfl

/-- The best so far among the clients considered: admitted, waiting, and no admitted one of them heavier. -/
def State.BestOf (s : State) (ok : Client → Bool) (cs : List Client) : Option (Client × Nat) → Prop
  | none => ∀ c ∈ cs, ok c = true → s.waitingWeight c = none
  | some (b, w) => ok b = true ∧ s.waitingWeight b = some w ∧
      ∀ c ∈ cs, ok c = true → ∀ v, s.waitingWeight c = some v → v ≤ w

theorem State.outranks_some {s : State} {c b : Client} {w v : Nat} (h : s.outranks c w (some (b, v)) = true) :
    v ≤ w := by
  simp only [State.outranks, Bool.or_eq_true, Bool.and_eq_true, decide_eq_true_eq] at h
  omega

theorem State.not_outranks_some {s : State} {c b : Client} {w v : Nat}
    (h : ¬ s.outranks c w (some (b, v)) = true) : w ≤ v := by
  simp only [State.outranks, Bool.or_eq_true, decide_eq_true_eq, not_or, not_lt] at h
  exact h.1

theorem State.BestOf.step {s : State} {ok : Client → Bool} {cs : List Client} {best : Option (Client × Nat)}
    (h : s.BestOf ok cs best) (c : Client) : s.BestOf ok (c :: cs) (s.pickStep ok best c) := by
  unfold State.pickStep
  cases hc : s.waitingWeight c with
  | none =>
    cases best with
    | none => simpa [State.BestOf, hc] using h
    | some b => simpa [State.BestOf, hc] using h
  | some w =>
    dsimp only
    split
    · rename_i take
      obtain ⟨hok, hout⟩ := (Bool.and_eq_true _ _).mp take
      refine ⟨hok, hc, fun d hd hdok v hv => ?_⟩
      rcases List.mem_cons.mp hd with rfl | hd
      · exact (Option.some.inj (hv.symm.trans hc)).le
      · cases best with
        | none => exact absurd ((h d hd hdok).symm.trans hv) nofun
        | some b => exact (h.2.2 d hd hdok v hv).trans (State.outranks_some hout)
    · rename_i leave
      cases best with
      | none =>
        have hno : ok c ≠ true := fun hok => leave (by simp [hok, State.outranks])
        intro d hd hdok
        rcases List.mem_cons.mp hd with rfl | hd
        · exact absurd hdok hno
        · exact h d hd hdok
      | some b =>
        obtain ⟨b, wb⟩ := b
        refine ⟨h.1, h.2.1, fun d hd hdok v hv => ?_⟩
        rcases List.mem_cons.mp hd with rfl | hd
        · have hvw : v = w := Option.some.inj (hv.symm.trans hc)
          rw [hvw]
          exact State.not_outranks_some (s := s) (c := d) (b := b) fun hout => leave (by simp [hdok, hout])
        · exact h.2.2 d hd hdok v hv

theorem State.pick_bestOf (s : State) (ok : Client → Bool) : s.BestOf ok [.ar, .sr, .nr] (s.pick ok) := by
  have start : s.BestOf ok [] none := nofun
  rw [State.pick_eq_steps]
  exact ((start.step .nr).step .sr).step .ar

theorem Client.mem_all (c : Client) : c ∈ [Client.ar, .sr, .nr] := by cases c <;> decide

/-- The pick is an admitted waiting client, and no admitted client is heavier (R93). -/
theorem State.pick_some {s : State} {ok : Client → Bool} {c : Client} {w : Nat} (h : s.pick ok = some (c, w)) :
    ok c = true ∧ s.waitingWeight c = some w ∧ ∀ d v, ok d = true → s.waitingWeight d = some v → v ≤ w := by
  have best := s.pick_bestOf ok
  rw [h] at best
  exact ⟨best.1, best.2.1, fun d v hd hv => best.2.2 d (Client.mem_all d) hd v hv⟩

/-- Where no admitted client waits there is no pick (R93). -/
theorem State.pick_eq_none {s : State} {ok : Client → Bool} (h : ∀ c, ok c = true → s.waitingClaims c = []) :
    s.pick ok = none := by
  cases hp : s.pick ok with
  | none => rfl
  | some x =>
    obtain ⟨hok, hw, _⟩ := State.pick_some (c := x.1) (w := x.2) hp
    rw [(s.waitingWeight_eq_none_iff x.1).mpr (h _ hok)] at hw
    cases hw

/-! ## The two checks, case by case -/

theorem State.displacementCheck_displaces {s : State} {n d : Client} {g : AirTime} {w : Nat}
    (hm : s.arb.mode = .settling n g) (hp : s.pick (fun c => c != n) = some (d, w))
    (hw : (s.waitingWeight n).getD 0 + s.policy.margin ≤ w) : s.displacementCheck = s.settleToward d := by
  simp [State.displacementCheck, hm, hp, hw]

/-- Short of the margin the displacement check changes nothing (R100). -/
theorem State.displacementCheck_short {s : State} {n : Client} {g : AirTime} (hm : s.arb.mode = .settling n g)
    (h : ∀ d w, s.pick (fun c => c != n) = some (d, w) → w < (s.waitingWeight n).getD 0 + s.policy.margin) :
    s.displacementCheck = s := by
  rcases s.displacementCheck_cases with e | ⟨n', g', d, w, hm', hp, hw, _⟩
  · exact e
  · rw [hm] at hm'
    cases hm'
    exact absurd hw (Nat.not_le.mpr (h d w hp))

theorem State.preemptionCheck_preempts {s : State} {h d : Client} {w : Nat} (hm : s.arb.mode = .held h)
    (hp : s.pick (fun c => c != h) = some (d, w)) (hw : (s.holdingWeight h).getD 0 + s.policy.margin ≤ w)
    (hs : s.shielded h = false) : s.preemptionCheck = s.preempt h d := by
  simp [State.preemptionCheck, hm, hp, hw, hs]

/-- Short of the margin, or shielded, the preemption check changes nothing (R101). -/
theorem State.preemptionCheck_short {s : State} {h : Client} (hm : s.arb.mode = .held h)
    (hp : ∀ d w, s.pick (fun c => c != h) = some (d, w) →
      w < (s.holdingWeight h).getD 0 + s.policy.margin ∨ s.shielded h = true) : s.preemptionCheck = s := by
  rcases s.preemptionCheck_cases with e | ⟨h', d, w, hm', hp', hw, hs, _⟩
  · exact e
  · rw [hm] at hm'
    cases hm'
    rcases hp d w hp' with lt | shield
    · exact absurd hw (Nat.not_le.mpr lt)
    · exact absurd (hs.symm.trans shield) nofun

theorem State.stateCheck_held {s : State} {h : Client} (hm : s.arb.mode = .held h) :
    s.stateCheck = s.passZeroGuard s.preemptionCheck := by simp [State.stateCheck, hm]

theorem State.stateCheck_settling {s : State} {n : Client} {g : AirTime} (hm : s.arb.mode = .settling n g) :
    s.stateCheck = s.passZeroGuard s.displacementCheck := by simp [State.stateCheck, hm]

/-- With nobody else waiting the holder's check changes nothing (R101). -/
theorem State.stateCheck_unopposed {s : State} {h : Client} (hm : s.arb.mode = .held h)
    (hw : ∀ d, d ≠ h → s.waitingClaims d = []) : s.stateCheck = s := by
  have none : s.pick (fun c => c != h) = none := State.pick_eq_none fun d hd => hw d (by simpa using hd)
  rw [State.stateCheck_held hm, State.preemptionCheck_short hm fun d w hp => absurd (none.symm.trans hp) nofun,
    State.passZeroGuard_self]

/-! ## The penalty -/

/-- Past the allowance the penalty counts the 64ths of the window begun beyond it (R12, R13). -/
theorem penaltyOf_threshold (w share u k : Nat) (hw : 0 < w) (hk : k ≤ 14) :
    k + 1 ≤ penaltyOf w share u ↔ share * w / 64 + max 1 ((k * w + 63) / 64) ≤ u := by
  have reach (x : Nat) : k ≤ x * 64 / w ↔ (k * w + 63) / 64 ≤ x := by
    rw [Nat.le_div_iff_mul_le hw]; omega
  unfold penaltyOf allowanceOf
  generalize share * w / 64 = a
  split
  · omega
  · have := reach (u - a)
    omega

theorem penaltyOf_no_share (w u : Nat) (h : 1 ≤ u) : 1 ≤ penaltyOf w 0 u := by
  unfold penaltyOf allowanceOf
  rw [Nat.zero_mul, Nat.zero_div]
  split
  · omega
  · exact Nat.le_min.mpr ⟨by decide, Nat.le_add_right 1 _⟩

theorem accountOf_eq_usage {m : ArbiterMode} {c : Client} (h : accountOf m = .usage c) : m = .held c := by
  cases m <;> cases h
  rfl

/-- Between crossings the charged client's penalty, too, is R12's value for its present usage (R13). -/
theorem State.penalty_eq_now {s : State} (hc : s.chargeFollows) (hp : s.penaltyFollows) (hd : s.penaltyDue = false)
    (c : Client) : s.acct.penalty.get c = s.penaltyNow c := by
  have follows := hp c
  split at follows
  · rename_i charged
    have held : s.arb.mode = .held c := accountOf_eq_usage (hc.symm.trans charged)
    have reached : ¬ s.acct.penalty.get c < s.penaltyNow c := by
      simpa [State.penaltyDue, held] using hd
    omega
  · exact follows

theorem exec_penaltyCrossing {s : State} {c : Client} (hr : s.resetn = true) (hm : s.arb.mode = .held c)
    (hp : s.acct.penalty.get c < s.penaltyNow c) :
    exec .penaltyCrossing s = .next
      (({ s with acct := { s.acct with penalty := s.acct.penalty.set c (s.penaltyNow c) } } : State).stateCheck) := by
  have due : s.penaltyDue = true := by simp [State.penaltyDue, hm, hp]
  simp only [exec, execPenaltyCrossing, State.whenRunning_high _ _ hr, hm, due, if_true]

/-- With no crossing due the row of a crossing changes nothing (log entry 5). -/
theorem exec_penaltyCrossing_early {s : State} (hp : s.penaltyDue = false) : exec .penaltyCrossing s = .next s := by
  simp only [exec, execPenaltyCrossing, State.whenRunning, hp]
  cases s.arb.mode <;> simp

/-- The rows that clear the usage leave every penalty at 0 (R12, R14). -/
theorem cleared_penalties {i : Instr} {s t : State}
    (hi : (s.resetn = true ∧ ((i = .rollover ∧ reached s.clock s.windowEnd = true) ∨ (∃ n r, i = .setWindow n r) ∨
      i = .restart)) ∨ ∃ p, i = .resetEnd p)
    (h : exec i s = .next t) (c : Client) : t.acct.penalty.get c = 0 := by
  rcases hi with ⟨hr, ⟨rfl, hd⟩ | ⟨n, r, rfl⟩ | rfl⟩ | ⟨p, rfl⟩
  · rw [exec_rollover_due hr hd] at h
    cases h
    exact ((rolledOver_check s _).accounts.1 c).2
  · rw [exec_setWindow n r hr] at h
    cases h
    exact ((windowRestarted (s.restartWindow_fresh _ _) s _).accounts.1 c).2
  · rw [exec_restart hr] at h
    cases h
    exact congrArg (PerClient.get · c) s.restartAll_fresh.penalty |>.trans (PerClient.get_all 0 c)
  · cases h
    exact PerClient.get_all 0 c

/-- Settles O45. -/
theorem penaltyIsTheFormulaOfUsage : Obligations.PenaltyIsTheFormulaOfUsage := by
  refine ⟨fun w share u => rfl, penaltyOf_le, by decide, penaltyOf_no_share, penaltyOf_threshold,
    fun s c hc hp hd => State.penalty_eq_now hc hp hd c, fun i s t => cleared_penalties,
    fun s c => exec_penaltyCrossing, fun s c hr hm hp hw => ?_, fun s => exec_penaltyCrossing_early⟩
  rw [exec_penaltyCrossing hr hm hp]
  exact congrArg _ (State.stateCheck_unopposed hm hw)

end Sys2Proof.Machine
end


section
namespace Sys2Proof.Machine

/-! ## SET CLIENT -/

/-- The arbiter takes no notice of a client away (R40, R151). -/
theorem arbiterClosed_notices :
    ArbiterClosed fun s t => ∀ c i, (s.links.get c).notices.getLsbD i = true →
      (t.links.get c).notices.getLsbD i = true where
  refl _ := fun _ _ => id
  trans h k := fun c i => k c i ∘ h c i
  setMode s m := by simp
  setPosition _ _ := fun _ _ => id
  turnHolding _ _ := fun _ _ => id
  cutHoldings s c := by
    have given (u : State) (c d : Client) (n : Notice) (i : Nat) (h : (u.links.get d).notices.getLsbD i = true) :
        ((u.giveNotice c n).links.get d).notices.getLsbD i = true := by
      unfold State.giveNotice
      split
      · exact h
      · by_cases hd : d = c
        · subst hd; simp [h]
        · simpa [hd] using h
    intro d i h
    unfold State.cutHoldings State.giveNoticeIf
    dsimp only
    split
    · exact given _ c d _ i (given _ c d _ i h)
    · exact given _ c d _ i h
  countPreemption _ := fun _ _ => id

section SetClient

variable (s : State) (c : Client) (share cap presence rank : Nat)

/-- The presence deadline after a SET CLIENT writes the presence window (R37). -/
def State.writtenDeadline : Option AirTime :=
  if s.admitted c = false then (s.sup.get c).deadline
  else if presence = 0 then none
  else if (s.policy.clients.get c).presence = 0 then
    some (s.clock + BitVec.ofNat 32 (if (s.sup.get c).state = .opening then 500000 else presence * 10000))
  else (s.sup.get c).deadline

/-- The penalties after a SET CLIENT writes the share (R14). -/
def State.writtenPenalty : PerClient Nat :=
  if (s.policy.clients.get c).share = share then s.acct.penalty
  else s.acct.penalty.set c (penaltyOf s.window share (s.usageNow c))

/-- The state a SET CLIENT leaves before the arbiter's check. -/
def State.clientWritten : State :=
  { (if (s.policy.clients.get c).share ≠ share ∨ (s.policy.clients.get c).cap ≠ cap then s.giveNotice c .policy
      else s) with
    policy := { s.policy with clients := writtenClients s.policy.clients c share cap presence rank }
    sup := s.sup.set c { s.sup.get c with deadline := s.writtenDeadline c presence }
    acct := { s.acct with penalty := s.writtenPenalty c share } }

theorem writtenClients_self (p : PerClient ClientPolicy) :
    (writtenClients p c share cap presence rank).get c =
      { share := share, cap := cap, presence := presence, rank := rank } := by
  rw [writtenClients, PerClient.get_set_same]
  cases c <;> rfl

theorem writtenClients_other (p : PerClient ClientPolicy) {d : Client} (h : d ≠ c) :
    (writtenClients p c share cap presence rank).get d =
      { p.get d with rank := if (p.get d).rank = rank then (p.get c).rank else (p.get d).rank } := by
  have swapped : swappedRank p c rank d = if (p.get d).rank = rank then (p.get c).rank else (p.get d).rank := by
    simp [swappedRank, h]
  rw [writtenClients, PerClient.get_set_other _ _ _ _ h, ← swapped]
  cases d <;> rfl

/-- The presence window being written, its deadline follows R37. -/
theorem State.presenceChanged_written (u : State) (hs : u.sup = s.sup) (hc : u.clock = s.clock)
    (hp : (u.policy.clients.get c).presence = presence) :
    u.presenceChanged c (s.policy.clients.get c).presence =
      { u with sup := s.sup.set c { s.sup.get c with deadline := s.writtenDeadline c presence } } := by
  have admitted : u.admitted c = s.admitted c := by unfold State.admitted; rw [hs]
  have kept : u = { u with sup := s.sup.set c { s.sup.get c with deadline := (s.sup.get c).deadline } } := by
    rw [PerClient.set_get, ← hs]
  unfold State.presenceChanged State.writtenDeadline
  rw [admitted, hp]
  split
  · exact kept
  · split
    · simp only [State.onSup, hs]
    · rename_i hne
      split
      · simp only [State.onSup, State.openingDeadline, State.regularDeadline, hs, hp, hc, hne, if_false]
        split <;> rfl
      · exact kept

theorem State.setClient_eq :
    s.setClient c share cap presence rank = (s.clientWritten c share cap presence rank).stateCheck := by
  have shared : (({ s with policy := { s.policy with
        clients := writtenClients s.policy.clients c share cap presence rank } } : State).shareChanged c
        (s.policy.clients.get c).share) =
      { s with
        policy := { s.policy with clients := writtenClients s.policy.clients c share cap presence rank }
        acct := { s.acct with penalty := s.writtenPenalty c share } } := by
    unfold State.shareChanged State.writtenPenalty State.penaltyNow
    simp only [writtenClients_self]
    by_cases h : share = (s.policy.clients.get c).share
    · simp [h]
    · simp only [h, Ne.symm h, if_false]
      rfl
  unfold State.setClient
  dsimp only
  rw [shared, State.presenceChanged_written s c presence]
  case hs => rfl
  case hc => rfl
  case hp => simp only [writtenClients_self]
  congr 1
  have changed : ((s.policy.clients.get c).share != share || (s.policy.clients.get c).cap != cap) = true ↔
      (s.policy.clients.get c).share ≠ share ∨ (s.policy.clients.get c).cap ≠ cap := by simp
  unfold State.clientWritten State.giveNoticeIf
  simp only [changed]
  split
  · unfold State.giveNotice
    simp only [PerClient.get_set_same]
    split <;> rfl
  · rfl

end SetClient

theorem clientOfIndex_none {n : Nat} (h : 2 < n) : clientOfIndex n = none :=
  match n, h with
  | _ + 3, _ => rfl

theorem exec_setClient {s : State} {b share rank p : Byte} {cap : BitVec 16} {c : Client} (hr : s.resetn = true)
    (hb : clientOfIndex b.toNat = some c) :
    exec (.setClient b share cap p rank) s = .next
      (((s.clientWritten c (min 64 share.toNat) (min 1024 cap.toNat) p.toNat (min 2 rank.toNat)).stateCheck).finishWrite
        (if 64 < share.toNat ∨ 1024 < cap.toNat ∨ 2 < rank.toNat then .clamped else .ok) []) := by
  have low (hi x : Nat) : saturate 0 hi x = min hi x := by simp [saturate]
  simp only [exec, execSetClient, State.whenRunning_high _ _ hr, hb, State.setClient_eq, low, clampedIf, outside,
    Bool.or_eq_true, decide_eq_true_eq, Nat.not_lt_zero, false_or, or_assoc]

/-- What a SET CLIENT leaves, its answer and the arbiter's check included (R106, R160). -/
structure ClientSet (s u t : State) (c : Client) (res : PortResult) : Prop where
  policy : t.policy = u.policy
  sup : t.sup = u.sup
  port : t.port = s.port.wrote res []
  check : t = { u.stateCheck with port := t.port }
  notices : ∀ i, (u.links.get c).notices.getLsbD i = true → (t.links.get c).notices.getLsbD i = true

theorem clientSet (s : State) (c : Client) (share cap presence rank : Nat) (res : PortResult) :
    ClientSet s (s.clientWritten c share cap presence rank)
      ((s.clientWritten c share cap presence rank).stateCheck.finishWrite res []) c res := by
  have port : (s.clientWritten c share cap presence rank).port = s.port := by
    unfold State.clientWritten
    split <;> simp
  have keeps := (s.clientWritten c share cap presence rank).stateCheck_keeps
  refine ⟨keeps.policy, keeps.sup, ?_, rfl, arbiterClosed_notices.stateCheck _ c⟩
  rw [State.finishWrite_eq, keeps.port, port]

/-- Before the check a SET CLIENT has written the policy, the deadline, the penalty and a notice, nothing else. -/
theorem State.clientWritten_frame (s : State) (c : Client) (share cap presence rank : Nat) (u : State)
    (hu : u = s.clientWritten c share cap presence rank) :
    u = { s with policy := u.policy, sup := u.sup, links := u.links, acct := u.acct } := by
  subst hu
  unfold State.clientWritten
  split
  · unfold State.giveNotice
    split <;> rfl
  · rfl

theorem State.clientWritten_same {s : State} {c : Client} {share cap : Nat} (presence rank : Nat)
    (hs : (s.policy.clients.get c).share = share) (hc : (s.policy.clients.get c).cap = cap) :
    (s.clientWritten c share cap presence rank).links = s.links ∧
      (s.clientWritten c share cap presence rank).acct = s.acct := by
  simp [State.clientWritten, State.writtenPenalty, hs, hc]

/-- POLICY is set for an attached client whose share or cap changes (R160). -/
theorem State.clientWritten_policy_notice {s : State} {c : Client} {share cap presence rank : Nat}
    (h : (s.policy.clients.get c).share ≠ share ∨ (s.policy.clients.get c).cap ≠ cap)
    (hs : (s.sup.get c).state ≠ .detached) :
    ((s.clientWritten c share cap presence rank).links.get c).notices.getLsbD 6 = true := by
  simp [State.clientWritten, h, State.giveNotice, hs, noticeBit]

/-- Settles O47. -/
theorem setClientStoresThePolicy : Obligations.SetClientStoresThePolicy := by
  refine ⟨fun s b share cap p rank c hr hb => ⟨_, exec_setClient hr hb, ?_⟩, fun s b share cap p rank hr hb => ?_⟩
  · have written := clientSet s c (min 64 share.toNat) (min 1024 cap.toNat) p.toNat (min 2 rank.toNat)
      (if 64 < share.toNat ∨ 1024 < cap.toNat ∨ 2 < rank.toNat then .clamped else .ok)
    have rest (h : s.atRest) := State.stateCheck_rest
      (s.clientWritten c (min 64 share.toNat) (min 1024 cap.toNat) p.toNat (min 2 rank.toNat))
      (by unfold State.clientWritten; split <;> simpa [State.atRest] using h)
    have frame := State.clientWritten_frame s c (min 64 share.toNat) (min 1024 cap.toNat) p.toNat
      (min 2 rank.toNat) _ rfl
    generalize ((s.clientWritten c (min 64 share.toNat) (min 1024 cap.toNat) p.toNat
      (min 2 rank.toNat)).stateCheck).finishWrite _ [] = t at written ⊢
    obtain ⟨policy, sup, port, check, notices⟩ := written
    have zero : p = 0 ↔ p.toNat = 0 := by rw [← BitVec.toNat_inj]; rfl
    refine ⟨by rw [policy]; rfl, ?_, fun d hd => ?_, port, fun h hs => ?_, fun h hs hc => ?_, fun h hs => ?_, ?_,
      fun d hd => ?_, ?_⟩
    · rw [policy]
      exact writtenClients_self _ _ _ _ _ _
    · rw [policy]
      exact writtenClients_other _ _ _ _ _ _ hd
    · exact notices 6 (State.clientWritten_policy_notice h hs)
    · obtain ⟨links, acct⟩ := State.clientWritten_same p.toNat (min 2 rank.toNat) hs hc
      rw [rest h, frame, links, acct] at check
      rw [policy, sup]
      exact check
    · rw [rest h] at check
      have acct : t.acct = { s.acct with penalty := s.writtenPenalty c (min 64 share.toNat) } := by rw [check]; rfl
      have links : t.links = _ := congrArg State.links check
      refine ⟨?_, by rw [acct, State.writtenPenalty, if_neg hs]; rfl⟩
      rw [frame] at check
      rw [policy, sup, links, acct]
      exact check
    · rw [policy, sup]
      exact check
    · rw [sup]
      exact PerClient.get_set_other _ _ _ _ hd
    · rw [sup]
      refine (PerClient.get_set_same _ _ _).trans ?_
      simp only [State.writtenDeadline, zero]
  · simp only [exec, execSetClient, State.whenRunning_high _ _ hr, clientOfIndex_none hb, State.refuseWrite_eq]

end Sys2Proof.Machine
end


section
namespace Sys2Proof.Machine

/-! ## When the arbiter checks -/

theorem State.claimArrived_settling {s : State} {c n : Client} {g : AirTime} (hm : s.arb.mode = .settling n g)
    (hc : c ≠ n) : s.claimArrived c = s.passZeroGuard s.displacementCheck := by
  simp [State.claimArrived, hm, Ne.symm hc]

theorem State.claimArrived_held {s : State} {c h : Client} (hm : s.arb.mode = .held h) (hc : c ≠ h) :
    s.claimArrived c = s.passZeroGuard s.preemptionCheck := by
  simp [State.claimArrived, hm, Ne.symm hc]

section ClaimsLeft

variable (b : State) {s : State} {c : Client}

theorem State.claimsLeft_held_some (hm : s.arb.mode = .held c) (h : s.holdingClaims c ≠ []) :
    b.claimsLeft s c = s.passZeroGuard s.preemptionCheck := by simp [State.claimsLeft, hm, h]

theorem State.claimsLeft_held_none (hm : s.arb.mode = .held c) (h : s.holdingClaims c = []) :
    b.claimsLeft s c = s.passZeroGuard s.handOff := by simp [State.claimsLeft, hm, h]

theorem State.claimsLeft_settling_none {g : AirTime} (hm : s.arb.mode = .settling c g) (h : s.waitingClaims c = []) :
    b.claimsLeft s c = s.passZeroGuard s.handOff := by simp [State.claimsLeft, hm, h]

theorem State.claimsLeft_settling_fell {g : AirTime} (hm : s.arb.mode = .settling c g) (h : s.waitingClaims c ≠ [])
    (fell : (s.waitingWeight c).getD 0 < (b.waitingWeight c).getD 0) :
    b.claimsLeft s c = s.passZeroGuard s.displacementCheck := by
  simp [State.claimsLeft, State.weightFell, hm, h, fell]

/-- A weight of the next holder that has not fallen asks for no check (R99). -/
theorem State.claimsLeft_settling_kept {g : AirTime} (hm : s.arb.mode = .settling c g) (h : s.waitingClaims c ≠ [])
    (kept : (b.waitingWeight c).getD 0 ≤ (s.waitingWeight c).getD 0) : b.claimsLeft s c = s := by
  simp [State.claimsLeft, State.weightFell, hm, h, Nat.not_lt.mpr kept]

/-- The claims of a client that is neither holder nor next holder leave unanswered (R107). -/
theorem State.claimsLeft_other (hh : s.arb.mode.holder ≠ some c) (hn : s.arb.mode.next ≠ some c) :
    b.claimsLeft s c = s := by
  cases hm : s.arb.mode with
  | free => simp [State.claimsLeft, hm]
  | parking g => simp [State.claimsLeft, hm]
  | settling n g =>
    have hne : n ≠ c := fun e => hn (by rw [hm, e]; rfl)
    simp [State.claimsLeft, hm, hne]
  | held h =>
    have hne : h ≠ c := fun e => hh (by rw [hm, e]; rfl)
    simp [State.claimsLeft, hm, hne]

end ClaimsLeft

/-- A guard of length 0 that an answer has started ends in the same act (R91). -/
theorem State.passZeroGuard_passes {s t : State} {g : AirTime} (hg : t.policy.guardTime = 0)
    (hs : t.arb.position ≠ s.arb.position ∨ t.arb.mode.guardEnd ≠ s.arb.mode.guardEnd)
    (he : t.arb.mode.guardEnd = some g) (hr : reached t.clock g = true) : s.passZeroGuard t = t.endGuard := by
  have passed : t.guardReached = true := by rw [State.guardReached, he]; exact hr
  exact if_pos ⟨hg, (s.guardStarted_iff t).mpr hs, passed⟩

/-! ## What a displacement and a preemption write -/

/-- Entering an arbiter state writes the arbiter's state and the accounts alone. -/
theorem State.setMode_eq (s : State) (m : ArbiterMode) :
    s.setMode m = { s with arb := { s.arb with mode := m }, acct := (s.setMode m).acct } := by
  unfold State.setMode
  split <;> rfl

theorem State.settleToward_eq (s : State) (d : Client) :
    s.settleToward d = { s with
      arb := ⟨.settling d (s.clock + BitVec.ofNat 32 s.policy.guardTime), d⟩, acct := (s.settleToward d).acct } := by
  have h := s.setMode_eq (.settling d s.newGuard)
  unfold State.settleToward State.setPosition
  rw [h]
  rfl

/-- From one guard to the next the same account is charged on (R5). -/
theorem State.settleToward_of_settling {s : State} {n : Client} {g : AirTime} (hm : s.arb.mode = .settling n g)
    (hc : s.chargeFollows) (d : Client) :
    s.settleToward d = { s with arb := ⟨.settling d (s.clock + BitVec.ofNat 32 s.policy.guardTime), d⟩ } := by
  have same : accountOf (.settling d s.newGuard) = s.acct.charged := by rw [hc, hm]; rfl
  rw [State.settleToward, s.setMode_same_account _ same]
  rfl

/-- The displacement check writes the arbiter and the accounts alone, counts nothing, and stays in SETTLING. -/
theorem State.displacementCheck_frame {s : State} {n : Client} {g : AirTime} (hm : s.arb.mode = .settling n g) :
    s.displacementCheck = { s with arb := s.displacementCheck.arb, acct := s.displacementCheck.acct } ∧
      s.displacementCheck.acct.preemptions = s.acct.preemptions ∧
      ∃ d g', s.displacementCheck.arb.mode = .settling d g' := by
  rcases s.displacementCheck_cases with e | ⟨_, _, d, _, _, _, _, e⟩ <;> rw [e]
  · exact ⟨rfl, rfl, n, g, hm⟩
  · refine ⟨?_, (s.setMode_window _).2.1, d, s.newGuard, s.setMode_mode _⟩
    rw [s.settleToward_eq d]

/-- The slots of the client's holding claims. -/
def State.holdingSlots (s : State) (h : Client) : List Nat := (s.holdingClaims h).map (·.1)

/-- The flow table after the client's holdings are cut (R53, R55). -/
def State.cutFlows (s : State) (h : Client) : List Flow :=
  s.flows.map fun f => Flow.cut^[(s.holdingSlots h).count f.slot] f

/-- The links after the client's holdings are cut: CUT, and ENDED where an entry retires (R40, R102). -/
def State.cutLinks (s : State) (h : Client) : PerClient Link :=
  if (s.sup.get h).state = .detached then s.links
  else s.links.set h { s.links.get h with
    notices := (s.links.get h).notices ||| 0x04 |||
      if s.plan.any (fun e => e.owner == h && e.isHolding && e.count == 1) then 0x02 else 0x00 }

theorem Flow.cut_iterate_slot (n : Nat) (f : Flow) : (Flow.cut^[n] f).slot = f.slot := by
  induction n with
  | zero => rfl
  | succ n ih => rw [Function.iterate_succ_apply']; exact ih

/-- Cutting slot after slot cuts each flow once for every mention of its slot. -/
theorem foldl_onSlot_cut (ks : List Nat) (fs : List Flow) :
    ks.foldl (fun fs k => onSlot k Flow.cut fs) fs = fs.map fun f => Flow.cut^[ks.count f.slot] f := by
  induction ks generalizing fs with
  | nil => simp
  | cons k ks ih =>
    rw [List.foldl_cons, ih, onSlot, List.map_map]
    refine List.map_congr_left fun f _ => ?_
    by_cases hk : f.slot = k
    · subst hk
      rw [Function.comp_apply, if_pos rfl, List.count_cons_self, Function.iterate_succ_apply]
      rfl
    · simp [hk, List.count_cons_of_ne (Ne.symm hk)]

/-- The cut of the holdings, as one update of the state (R102). -/
theorem State.cutHoldings_eq (s : State) (h : Client) :
    s.cutHoldings h = { s with
      flows := s.cutFlows h, plan := s.plan.filterMap (Entry.cutFor h s.clock)
      live := s.live.set h (s.cutLive (s.live.get h)), links := s.cutLinks h } := by
  unfold State.cutHoldings
  rw [show ((s.holdingClaims h).map (·.1)).foldl (fun fs k => onSlot k Flow.cut fs) s.flows = s.cutFlows h from
    foldl_onSlot_cut _ _]
  unfold State.giveNoticeIf State.giveNotice State.cutLinks State.cutRetires
  by_cases hd : (s.sup.get h).state = .detached
  · simp [hd]
  · by_cases retires : s.plan.any (fun e => e.owner == h && e.isHolding && e.count == 1) = true <;>
      simp [hd, retires, State.onLink, noticeBit]

/-- The state in which the preemption of `h` by `d` stands before the former holder's displacement check (R102). -/
def State.preempted (s : State) (h d : Client) : State := ((s.cutHoldings h).countPreemption).settleToward d

theorem State.preempt_eq (s : State) (h d : Client) :
    s.preempt h d =
      if (s.preempted h d).waitingClaims h = [] then s.preempted h d else (s.preempted h d).displacementCheck := by
  unfold State.preempt
  exact if_congr List.isEmpty_iff rfl rfl

section Preempted

variable (s : State) (h d : Client)

theorem State.preempted_eq :
    s.preempted h d = { s with
      arb := ⟨.settling d (s.clock + BitVec.ofNat 32 s.policy.guardTime), d⟩, acct := (s.preempted h d).acct
      flows := s.cutFlows h, plan := s.plan.filterMap (Entry.cutFor h s.clock)
      live := s.live.set h (s.cutLive (s.live.get h)), links := s.cutLinks h } := by
  unfold State.preempted
  rw [State.settleToward_eq, State.countPreemption, s.cutHoldings_eq h]

theorem State.preempted_arb :
    (s.preempted h d).arb = ⟨.settling d (s.clock + BitVec.ofNat 32 s.policy.guardTime), d⟩ :=
  congrArg State.arb (s.preempted_eq h d)

theorem State.preempted_flows : (s.preempted h d).flows = s.cutFlows h := congrArg State.flows (s.preempted_eq h d)

theorem State.preempted_plan : (s.preempted h d).plan = s.plan.filterMap (Entry.cutFor h s.clock) :=
  congrArg State.plan (s.preempted_eq h d)

theorem State.preempted_live : (s.preempted h d).live = s.live.set h (s.cutLive (s.live.get h)) :=
  congrArg State.live (s.preempted_eq h d)

theorem State.preempted_links : (s.preempted h d).links = s.cutLinks h := congrArg State.links (s.preempted_eq h d)

theorem State.preempted_policy : (s.preempted h d).policy = s.policy :=
  (congrArg State.policy (s.preempted_eq h d) :)

theorem State.preempted_preemptions : (s.preempted h d).acct.preemptions = raise16 s.acct.preemptions := by
  have kept := ((s.cutHoldings h).countPreemption.setMode_window
    (.settling d (s.cutHoldings h).countPreemption.newGuard)).2.1
  have counted : (s.cutHoldings h).countPreemption.acct.preemptions = raise16 (s.cutHoldings h).acct.preemptions := rfl
  rw [State.cutHoldings_acct] at counted
  exact kept.trans counted

/-- What the former holder's check leaves of the preempted state: it writes the arbiter and the accounts alone. -/
theorem State.preempt_frame :
    s.preempt h d = { s.preempted h d with arb := (s.preempt h d).arb, acct := (s.preempt h d).acct } ∧
      (s.preempt h d).acct.preemptions = raise16 s.acct.preemptions ∧
      ∃ n g, (s.preempt h d).arb.mode = .settling n g := by
  have mode := congrArg Arbiter.mode (s.preempted_arb h d)
  rw [← s.preempted_preemptions h d, s.preempt_eq h d]
  split
  · exact ⟨rfl, rfl, _, _, mode⟩
  · exact State.displacementCheck_frame mode

end Preempted

end Sys2Proof.Machine
end


section
namespace Sys2Proof.Machine

/-! ## The claims after a cut -/

theorem Entry.cutFor_owner {h : Client} {now : AirTime} {e x : Entry} (hx : e.cutFor h now = some x) :
    x.owner = e.owner := by
  rw [Entry.cutFor_eq] at hx
  split at hx
  · split at hx <;> cases hx
    rfl
  · cases hx; rfl

/-- No entry of the client holds after its cut (R72). -/
theorem Entry.cutFor_not_holding {h : Client} {now : AirTime} {e x : Entry} (hx : e.cutFor h now = some x)
    (ho : x.owner = h) : x.isHolding = false := by
  have owner := Entry.cutFor_owner hx
  rw [Entry.cutFor_eq] at hx
  split at hx
  · split at hx
    · cases hx
    · cases hx
      unfold Entry.isHolding
      dsimp only
      split
      · rename_i holding
        split at holding <;> cases holding
      · rfl
  · rename_i other
    cases hx
    exact Bool.eq_false_iff.mpr fun holding => other ⟨ho, holding⟩

/-- An entry that is DUE after the cut was DUE or HOLDING before it, for the same flow (R73). -/
theorem Entry.cutFor_due {h : Client} {now : AirTime} {e x : Entry} (hx : e.cutFor h now = some x)
    (hd : x.isDue = true) : x.flow = e.flow ∧ (e.isDue = true ∨ e.isHolding = true) := by
  rw [Entry.cutFor_eq] at hx
  split at hx
  · rename_i cut
    split at hx <;> cases hx
    exact ⟨rfl, .inr cut.2⟩
  · cases hx; exact ⟨rfl, .inl hd⟩

/-- The cut of a client's holdings leaves the entries of the others as they are. -/
theorem filter_cutFor_other {h c : Client} (hc : c ≠ h) (now : AirTime) (p : Entry → Bool) (es : List Entry) :
    (es.filterMap (Entry.cutFor h now)).filter (fun e => e.owner == c && p e) =
      es.filter fun e => e.owner == c && p e := by
  rw [List.filter_filterMap, ← List.filterMap_eq_filter]
  refine List.filterMap_congr fun e _ => ?_
  by_cases he : e.owner = c
  · have kept : e.cutFor h now = some e := if_neg fun cut => hc (he.symm.trans cut.1)
    rw [kept]
    rfl
  · cases hx : e.cutFor h now with
    | none => simp [Option.guard, he]
    | some x => simp [Option.filter, Option.guard, he, Entry.cutFor_owner hx]

section Claims

variable {s : State} {h d c : Client}

/-- The other clients' waiting claims stay on the board (R102). -/
theorem State.preempted_waitingClaims_other (hc : c ≠ h) :
    (s.preempted h d).waitingClaims c = s.waitingClaims c := by
  unfold State.waitingClaims State.liveWaiting State.dueSlots
  rw [s.preempted_live h d, s.preempted_plan h d, filter_cutFor_other hc, PerClient.get_set_other _ _ _ _ hc]

/-- The live claim of a former holder that did not wait waits where it held (R124). -/
theorem State.preempted_liveWaiting (hw : s.liveWaiting h = none) :
    (s.preempted h d).liveWaiting h = s.liveHolding h := by
  unfold State.liveWaiting State.liveHolding at *
  rw [s.preempted_live h d, PerClient.get_set_same]
  unfold State.cutLive
  cases hl : (s.live.get h).state <;> simp_all

/-- The former holder waits with claims that held (R73, R124). -/
theorem State.preempted_waitingClaims_self (hw : s.waitingClaims h = []) {x : Nat × Bool}
    (hx : x ∈ (s.preempted h d).waitingClaims h) : x ∈ s.holdingClaims h := by
  obtain ⟨live, due⟩ := List.append_eq_nil_iff.mp hw
  rw [State.waitingClaims, State.preempted_liveWaiting (Option.toList_eq_nil_iff.mp live), List.mem_append] at hx
  refine List.mem_append.mpr (hx.imp id fun hx => ?_)
  obtain ⟨k, hk, rfl⟩ := List.mem_map.mp hx
  refine List.mem_map_of_mem ?_
  simp only [State.dueSlots, State.heldSlots, s.preempted_plan h d, List.mem_map, List.mem_filter, List.mem_filterMap,
    Bool.and_eq_true, beq_iff_eq] at hk ⊢
  obtain ⟨x, ⟨⟨e, he, hcut⟩, howner, hdue⟩, rfl⟩ := hk
  obtain ⟨hflow, stood⟩ := Entry.cutFor_due hcut hdue
  have owner : e.owner = h := (Entry.cutFor_owner hcut).symm.trans howner
  refine ⟨e, ⟨he, owner, stood.resolve_left fun waited => ?_⟩, hflow.symm⟩
  have mem : e.flow ∈ s.dueSlots h :=
    List.mem_map_of_mem (List.mem_filter.mpr ⟨he, by simp [owner, waited]⟩)
  rw [List.map_eq_nil_iff.mp due] at mem
  exact List.not_mem_nil mem

/-- The former holder holds nothing (R102). -/
theorem State.preempted_holdingClaims : (s.preempted h d).holdingClaims h = [] := by
  have live : (s.preempted h d).liveHolding h = none := by
    unfold State.liveHolding
    rw [s.preempted_live h d, PerClient.get_set_same]
    unfold State.cutLive
    cases hl : (s.live.get h).state <;> simp [hl]
  have held : (s.preempted h d).heldSlots h = [] := by
    unfold State.heldSlots
    rw [s.preempted_plan h d, List.map_eq_nil_iff, List.filter_eq_nil_iff]
    intro x hx
    obtain ⟨e, _, hcut⟩ := List.mem_filterMap.mp hx
    by_cases ho : x.owner = h
    · simp [Entry.cutFor_not_holding hcut ho]
    · simp [ho]
  rw [State.holdingClaims, live, held]
  rfl

theorem State.dueSlots_owned (hr : s.refsOk) {k : Nat} (hk : k ∈ s.dueSlots c) :
    ∃ f ∈ s.flows, f.slot = k ∧ f.owner = c := by
  obtain ⟨e, he, rfl⟩ := List.mem_map.mp hk
  obtain ⟨he, howner⟩ := List.mem_filter.mp he
  have owner : e.owner = c := by simp_all
  exact owner ▸ hr.1 e he

theorem State.heldSlots_owned (hr : s.refsOk) {k : Nat} (hk : k ∈ s.heldSlots c) :
    ∃ f ∈ s.flows, f.slot = k ∧ f.owner = c := by
  obtain ⟨e, he, rfl⟩ := List.mem_map.mp hk
  obtain ⟨he, howner⟩ := List.mem_filter.mp he
  have owner : e.owner = c := by simp_all
  exact owner ▸ hr.1 e he

theorem State.liveWaiting_bound {x : Nat × Bool} (hx : s.liveWaiting c = some x) :
    (s.live.get c).binding = some x.1 := by
  unfold State.liveWaiting at hx
  split at hx
  · obtain ⟨k, hk, rfl⟩ := Option.map_eq_some_iff.mp hx
    exact hk
  · cases hx

theorem State.liveHolding_bound {x : Nat × Bool} (hx : s.liveHolding c = some x) :
    (s.live.get c).binding = some x.1 := by
  unfold State.liveHolding at hx
  split at hx
  · obtain ⟨k, hk, rfl⟩ := Option.map_eq_some_iff.mp hx
    exact hk
  · cases hx

/-- A claim is for a flow of its own client (R84). -/
theorem State.claim_owned (hr : s.refsOk) {x : Nat × Bool} (hx : x ∈ s.waitingClaims c ∨ x ∈ s.holdingClaims c) :
    ∃ f ∈ s.flows, f.slot = x.1 ∧ f.owner = c := by
  simp only [State.waitingClaims, State.holdingClaims, List.mem_append, Option.mem_toList,
    List.mem_map] at hx
  rcases hx with (live | ⟨k, hk, rfl⟩) | live | ⟨k, hk, rfl⟩
  · exact (hr.2 c).2 _ (State.liveWaiting_bound live)
  · exact State.dueSlots_owned hr hk
  · exact (hr.2 c).2 _ (State.liveHolding_bound live)
  · exact State.heldSlots_owned hr hk

/-- No claim of another client is for a flow the holder's claims are for. -/
theorem State.holdingSlots_count_other (ht : s.flowTableOk) (hr : s.refsOk) (hc : c ≠ h) {x : Nat × Bool}
    (hx : x ∈ s.waitingClaims c) : (s.holdingSlots h).count x.1 = 0 := by
  refine List.count_eq_zero.mpr fun hmem => ?_
  obtain ⟨y, hy, same⟩ := List.mem_map.mp hmem
  obtain ⟨f, hf, fslot, fowner⟩ := State.claim_owned hr (.inl hx)
  obtain ⟨g, hg, gslot, gowner⟩ := State.claim_owned hr (.inr hy)
  have eq : f = g := slotsRise.eq_of_slot ht.1 hf hg (by rw [fslot, gslot, same])
  exact hc (fowner.symm.trans (eq ▸ gowner))

/-! ## The weights after a cut -/

theorem State.preempted_flowAt (k : Nat) :
    (s.preempted h d).flowAt k = (s.flowAt k).map fun f => Flow.cut^[(s.holdingSlots h).count k] f := by
  have slots : ((fun f => f.slot == k) ∘ fun f => Flow.cut^[(s.holdingSlots h).count f.slot] f) = fun f : Flow => f.slot == k :=
    funext fun f => by rw [Function.comp_apply, Flow.cut_iterate_slot]
  rw [State.flowAt, s.preempted_flows h d, State.cutFlows, List.find?_map, slots, ← State.flowAt]
  cases hf : s.flowAt k with
  | none => rfl
  | some f => rw [Option.map_some, Option.map_some, (State.flowAt_some hf).2]

theorem Flow.cut_iterate_class (n : Nat) (f : Flow) : effectiveClass (Flow.cut^[n] f) = effectiveClass f := by
  induction n with
  | zero => rfl
  | succ n ih => rw [Function.iterate_succ_apply']; exact ih

theorem Flow.cut_iterate_streak_le (n : Nat) (f : Flow) : (Flow.cut^[n] f).streak ≤ f.streak + n := by
  induction n with
  | zero => exact le_rfl
  | succ n ih =>
    rw [Function.iterate_succ_apply']
    have raised : (Flow.cut (Flow.cut^[n] f)).streak ≤ (Flow.cut^[n] f).streak + 1 := Nat.min_le_right _ _
    omega

/-- Cutting a flow in range `n` times raises its streak and its Cuts by `n`, each to its own limit (R53, R55). -/
theorem Flow.cut_iterate (n : Nat) {f : Flow} (hf : f.inRange) :
    Flow.cut^[n] f = { f with streak := min 15 (f.streak + n), cuts := min 65535 (f.cuts + n) } := by
  obtain ⟨_, _, _, streak, _, _, _, cuts, _⟩ := hf
  induction n with
  | zero => rw [Nat.add_zero, Nat.add_zero, Nat.min_eq_right streak, Nat.min_eq_right cuts]; rfl
  | succ n ih =>
    rw [Function.iterate_succ_apply', ih]
    simp only [Flow.cut, raiseStreak, raise16, Config.streakMax, Config.counterMax, Flow.mk.injEq, true_and, and_true]
    omega

/-- The close of the holder's charge brings every penalty to the present usage (R12). -/
theorem State.preempted_penalty (hp : s.penaltyFollows) (c : Client) :
    (s.preempted h d).acct.penalty.get c = s.penaltyNow c := by
  have cut : (s.cutHoldings h).countPreemption.penaltyFollows ∧
      ∀ c, (s.cutHoldings h).countPreemption.penaltyNow c = s.penaltyNow c := by
    rw [s.cutHoldings_eq h]
    exact ⟨hp, fun _ => rfl⟩
  have now := State.setMode_penaltyFollows _ (.settling d (s.cutHoldings h).countPreemption.newGuard) cut.1 c
  rw [State.setMode_charged, if_neg nofun, State.setMode_penaltyNow, cut.2] at now
  exact now

theorem claimWeight_antitone (r : ClassRow) (D : Nat) (u : Bool) {p q : Nat} (h : p ≤ q) :
    claimWeight r D u q ≤ claimWeight r D u p :=
  Nat.sub_le_sub_left (Nat.mul_le_mul_left 2 h) _

theorem claimWeight_streak_le {r : ClassRow} (hr : r.step ≤ 3) {D E n : Nat} (h : E ≤ D + n) (u : Bool) (p : Nat) :
    claimWeight r E u p ≤ claimWeight r D u p + 3 * n := by
  have raised : r.step * E ≤ r.step * D + 3 * n :=
    (Nat.mul_le_mul_left _ h).trans (by rw [Nat.mul_add]; exact Nat.add_le_add_left (Nat.mul_le_mul_right n hr) _)
  unfold claimWeight
  omega

/-- The challengers' weights are as they were. -/
theorem State.preempted_waitingWeight_other (ht : s.flowTableOk) (hr : s.refsOk) (hm : s.arb.mode = .held h)
    (hcf : s.chargeFollows) (hp : s.penaltyFollows) (hc : c ≠ h) :
    (s.preempted h d).waitingWeight c = s.waitingWeight c := by
  have penalty : (s.preempted h d).acct.penalty.get c = s.acct.penalty.get c := by
    have now := hp c
    rw [hcf, hm, if_neg (by simpa [accountOf] using Ne.symm hc)] at now
    rw [State.preempted_penalty hp, now]
  unfold State.waitingWeight
  rw [State.preempted_waitingClaims_other hc]
  refine congrArg largest (List.map_congr_left fun x hx => ?_)
  unfold State.weightOf
  rw [State.preempted_flowAt, State.holdingSlots_count_other ht hr hc hx, s.preempted_policy h d, penalty]
  cases s.flowAt x.1 <;> rfl

/-- A cut raises the weight of a claim by at most 3 for each cut of its flow (R53, R87). -/
theorem State.preempted_weightOf_self (hi : s.policy.inRange) (hp : s.penaltyFollows) (x : Nat × Bool) :
    (s.preempted h d).weightOf h x ≤ s.weightOf h x + 3 * (s.holdingSlots h).count x.1 := by
  have penalty : s.acct.penalty.get h ≤ s.penaltyNow h := by
    have now := hp h
    split at now
    · exact now
    · exact now.le
  unfold State.weightOf
  rw [State.preempted_flowAt, s.preempted_policy h d, State.preempted_penalty hp]
  cases s.flowAt x.1 with
  | none => exact Nat.zero_le _
  | some f =>
    rw [Option.map_some]
    dsimp only
    rw [Flow.cut_iterate_class]
    obtain ⟨_, step, _⟩ := hi.1 (effectiveClass f)
    exact (claimWeight_streak_le step (Flow.cut_iterate_streak_le _ f) _ _).trans
      (Nat.add_le_add_right (claimWeight_antitone _ _ _ penalty) _)

/-- A margin that the raised streaks cannot reach leaves the guard with the challenger (R100, R102). -/
theorem State.preempted_stays {w : Nat} (ht : s.flowTableOk) (hr : s.refsOk) (hi : s.policy.inRange)
    (hcf : s.chargeFollows) (hp : s.penaltyFollows) (hm : s.arb.mode = .held h) (hw : s.waitingClaims h = [])
    (hpick : s.pick (fun c => c != h) = some (d, w)) (hmargin : (s.holdingWeight h).getD 0 + s.policy.margin ≤ w)
    (hfew : ∀ k, 3 * (s.holdingSlots h).count k < 2 * s.policy.margin) :
    (s.preempted h d).displacementCheck = s.preempted h d := by
  obtain ⟨hd, hdw, most⟩ := State.pick_some hpick
  have hd : d ≠ h := by simpa using hd
  have mode := congrArg Arbiter.mode (s.preempted_arb h d)
  refine State.displacementCheck_short mode fun c v hv => ?_
  obtain ⟨_, hcv, _⟩ := State.pick_some hv
  rw [State.preempted_waitingWeight_other ht hr hm hcf hp hd, hdw, s.preempted_policy h d, Option.getD_some]
  by_cases hc : c = h
  · subst hc
    obtain ⟨x, hx, rfl⟩ := List.mem_map.mp ((largest_eq_some_iff _ _).mp hcv).1
    have held := State.preempted_waitingClaims_self hw hx
    have rose := State.preempted_weightOf_self (h := c) (d := d) hi hp x
    have under : s.weightOf c x ≤ (s.holdingWeight c).getD 0 := le_largest_getD (List.mem_map_of_mem held)
    have few := hfew x.1
    omega
  · rw [State.preempted_waitingWeight_other ht hr hm hcf hp hc] at hcv
    have below := most c v (by simpa using hc) hcv
    obtain ⟨_, _, _, _, margin, _⟩ := hi
    omega

end Claims

end Sys2Proof.Machine
end


section
namespace Sys2Proof.Machine

/-! ## The checks of R100 and R101 -/

/-- A shield is a holding claim of a class that may not be preempted (R101). -/
theorem State.shielded_iff (s : State) (h : Client) :
    s.shielded h = true ↔ ∃ x ∈ s.holdingClaims h, ∃ f, s.flowAt x.1 = some f ∧
      (s.policy.classes.row (effectiveClass f)).preemptible = false := by
  unfold State.shielded
  rw [List.any_eq_true]
  refine exists_congr fun x => and_congr_right fun _ => ?_
  unfold State.rowOfSlot
  cases s.flowAt x.1 <;> simp

theorem State.displacementCheck_exact {s : State} {n : Client} {g : AirTime} (hm : s.arb.mode = .settling n g)
    (hc : s.chargeFollows) {d : Client} {w : Nat} (hp : s.pick (fun c => c != n) = some (d, w))
    (hw : (s.waitingWeight n).getD 0 + s.policy.margin ≤ w) :
    s.displacementCheck = { s with
      arb := ⟨.settling d (s.clock + BitVec.ofNat 32 s.policy.guardTime), d⟩ } :=
  (State.displacementCheck_displaces hm hp hw).trans (State.settleToward_of_settling hm hc d)

section Preempt

variable (s : State) (h d : Client)

/-- After a preemption no grant line is high (R102). -/
theorem State.preempt_gnt (c : Client) : (s.preempt h d).gnt c = false := by
  obtain ⟨_, _, n, g, mode⟩ := s.preempt_frame h d
  rw [State.gnt, mode, Bool.and_eq_false_iff]
  exact .inr rfl

theorem State.preempt_plan : (s.preempt h d).plan = s.plan.filterMap (Entry.cutFor h s.clock) :=
  (congrArg State.plan (s.preempt_frame h d).1 :).trans (s.preempted_plan h d)

theorem State.preempt_live : (s.preempt h d).live = s.live.set h (s.cutLive (s.live.get h)) :=
  (congrArg State.live (s.preempt_frame h d).1 :).trans (s.preempted_live h d)

theorem State.preempt_flows : (s.preempt h d).flows = s.cutFlows h :=
  (congrArg State.flows (s.preempt_frame h d).1 :).trans (s.preempted_flows h d)

theorem State.preempt_links : (s.preempt h d).links = s.cutLinks h :=
  (congrArg State.links (s.preempt_frame h d).1 :).trans (s.preempted_links h d)

theorem State.preempt_holdingClaims : (s.preempt h d).holdingClaims h = [] := by
  rw [← State.preempted_holdingClaims (s := s) (h := h) (d := d)]
  unfold State.holdingClaims State.liveHolding State.heldSlots
  rw [s.preempt_live, s.preempt_plan, s.preempted_live, s.preempted_plan]

/-- The former holder, unless DETACHED, is told of the cut (R40, R102). -/
theorem State.cutLinks_cut (ha : (s.sup.get h).state ≠ .detached) :
    ((s.cutLinks h).get h).notices.getLsbD 2 = true := by
  rw [State.cutLinks, if_neg ha, PerClient.get_set_same]
  simp

/-- A HOLDING live claim waits again, its urgency bit kept and its aging deadline anew (R124). -/
theorem State.preempt_live_holding {u : Bool} {a b : AirTime} (hl : (s.live.get h).state = .holding u a b) :
    (s.preempt h d).live.get h = { s.live.get h with
      state := .waiting u (s.clock + BitVec.ofNat 32 s.policy.agingInterval) } := by
  rw [s.preempt_live, PerClient.get_set_same, State.cutLive, hl]
  rfl

theorem State.mem_preempt_flows {f : Flow} (hf : f ∈ s.flows) (hr : f.inRange) :
    { f with
      streak := min 15 (f.streak + (s.holdingSlots h).count f.slot)
      cuts := min 65535 (f.cuts + (s.holdingSlots h).count f.slot) } ∈ (s.preempt h d).flows := by
  rw [s.preempt_flows, ← Flow.cut_iterate _ hr]
  exact List.mem_map_of_mem hf

end Preempt

/-- Settles O38: each check unfolds to its occasion; a preemption is the cut of the holdings, the count and the new guard,
and the former holder's displacement check writes no more than the arbiter and the running charge. -/
theorem displacementAndPreemptionNeedTheMargin : Obligations.DisplacementAndPreemptionNeedTheMargin := by
  refine ⟨fun s c n g => State.claimArrived_settling, fun s c h => State.claimArrived_held,
    fun s => ⟨s.stateCheck_rest, fun n g => State.stateCheck_settling, fun h => State.stateCheck_held⟩,
    fun b s c => ⟨b.claimsLeft_held_some, b.claimsLeft_held_none, fun g => b.claimsLeft_settling_none,
      fun g => b.claimsLeft_settling_fell, fun g => b.claimsLeft_settling_kept, b.claimsLeft_other⟩,
    fun s t => ⟨fun kept => ?kept, fun hg started => ⟨fun c g hm hr => ?settling, fun g hm hr => ?parking⟩⟩,
    fun s n g hm hc => ⟨fun d w => State.displacementCheck_exact hm hc, State.displacementCheck_short hm⟩,
    fun s h => State.preemptionCheck_short, State.shielded_iff, fun s h d w hm hp hw hs => ?preemption⟩
  case kept =>
    rcases kept with hg | ⟨position, guardEnd⟩
    · exact s.passZeroGuard_of_ne t hg
    · exact State.passZeroGuard_of_kept (by simp [State.guardStarted, position, guardEnd])
  case settling =>
    rw [State.passZeroGuard_passes hg started (by rw [hm]; rfl) hr, State.endGuard, hm]
  case parking =>
    rw [State.passZeroGuard_passes hg started (by rw [hm]; rfl) hr, State.endGuard, hm]
  case preemption =>
    refine ⟨s.preempted h d, s.preempt h d, (State.preemptionCheck_preempts hm hp hw hs).symm, s.preempted_arb h d, ?_,
      fun none => (s.preempt_eq h d).trans (if_pos none), fun some => (s.preempt_eq h d).trans (if_neg some),
      fun ht hr hi hc hpen hw' hfew => ?_, (s.preempt_frame h d).2.1, s.preempt_gnt h d, s.preempt_holdingClaims h d,
      fun ha => ?_, fun u a b => s.preempt_live_holding h d, ?_, s.preempt_links h d, fun f => s.mem_preempt_flows h d⟩
    · rw [s.preempted_live, PerClient.get_set_same, s.preempted_arb, s.preempted_flows, s.preempted_plan,
        s.preempted_links]
      exact s.preempted_eq h d
    · rw [s.preempt_eq, State.preempted_stays ht hr hi hc hpen hm hw' hp hw hfew, ite_self]
    · rw [s.preempt_links]
      exact s.cutLinks_cut h ha
    · rw [s.preempt_plan]
      exact List.filterMap_congr fun e _ => Entry.cutFor_eq h s.clock e

end Sys2Proof.Machine
end


section
/-!
# The clients' family: what a client state promises, and the statements about the clients' rows

Sections: the promise and the updates that keep it, the arbiter's answers, the rows, then the statements about single
rows.
-/

namespace Sys2Proof.Machine

/-! ## What a client state promises -/

/-- No two entries have one number (R58). -/
def numbersDiffer (es : List Entry) : Prop := es.Pairwise fun a b => a.number ≠ b.number

theorem numbersDiffer.eq_of_number {es : List Entry} (h : numbersDiffer es) {a b : Entry} (ha : a ∈ es) (hb : b ∈ es)
    (hn : a.number = b.number) : a = b := by
  have distinct : (es.map Entry.number).Nodup := List.pairwise_map.mpr h
  exact List.inj_on_of_nodup_map distinct ha hb hn

theorem numbersDiffer.filterMap {es : List Entry} (h : numbersDiffer es) (f : Entry → Option Entry)
    (hf : ∀ e x, f e = some x → x.number = e.number) : numbersDiffer (es.filterMap f) :=
  List.Pairwise.filterMap f (fun a b hab x hx y hy => by rwa [hf a x hx, hf b y hy]) h

theorem numbersDiffer.map {es : List Entry} (h : numbersDiffer es) (f : Entry → Entry)
    (hf : ∀ e, (f e).number = e.number) : numbersDiffer (es.map f) :=
  List.Pairwise.map f (fun a b hab => by rwa [hf a, hf b]) h

theorem numbersDiffer.filter {es : List Entry} (h : numbersDiffer es) (p : Entry → Bool) :
    numbersDiffer (es.filter p) := List.Pairwise.filter p h

theorem mem_insertEntry (x y : Entry) (es : List Entry) : y ∈ insertEntry x es ↔ y = x ∨ y ∈ es := by
  induction es with
  | nil => simp [insertEntry]
  | cons e es ih =>
    unfold insertEntry
    split
    · simp
    · simp [ih, or_left_comm]

theorem numbersDiffer.insertEntry {es : List Entry} (h : numbersDiffer es) {x : Entry}
    (hx : ∀ e ∈ es, e.number ≠ x.number) : numbersDiffer (insertEntry x es) := by
  induction es with
  | nil => exact List.pairwise_singleton _ _
  | cons e es ih =>
    obtain ⟨he, hes⟩ := List.pairwise_cons.mp h
    unfold Machine.insertEntry
    split
    · exact List.pairwise_cons.mpr ⟨fun y hy => (hx y hy).symm, h⟩
    · refine List.pairwise_cons.mpr ⟨fun y hy => ?_, ih hes fun y hy => hx y (by simp [hy])⟩
      rcases (mem_insertEntry x y es).mp hy with rfl | hy
      · exact hx e (by simp)
      · exact he y hy

/-- The client is not DETACHED (R24). -/
def State.attached (s : State) (c : Client) : Prop := (s.sup.get c).state ≠ .detached

theorem State.attached_of_admitted {s : State} {c : Client} (h : s.admitted c = true) : s.attached c := by
  intro detached
  simp [State.admitted, detached] at h

theorem State.admitted_iff (s : State) (c : Client) :
    s.admitted c = true ↔ (s.sup.get c).state = .opening ∨ (s.sup.get c).state = .active := by
  unfold State.admitted
  cases (s.sup.get c).state <;> simp

/-- The draft holds its reset values and no notice is set, as for a DETACHED client (R25, R40). -/
def Link.quiet (l : Link) : Prop := l.draft = .initial ∧ l.notices = 0

/-- What the clients' states promise, table by table: every flow, entry and binding is an attached client's, every
claim and every entry that is not SUSPENDED an OPENING or ACTIVE client's, and so is the air, where the claims of `x`,
just silenced or torn down, may still await the arbiter's answer (R24, R32, R33, R36, R40). -/
structure State.Owns (x : Option Client) (s : State) : Prop where
  numbers : numbersDiffer s.plan
  flows : ∀ f ∈ s.flows, s.attached f.owner
  entries : ∀ e ∈ s.plan, s.attached e.owner
  awake : ∀ e ∈ s.plan, e.isSuspended = false → s.admitted e.owner = true
  bound : ∀ c, (s.live.get c).binding ≠ none → s.attached c
  claims : ∀ c, (s.live.get c).state ≠ .idle → s.admitted c = true
  quiet : ∀ c, ¬ s.attached c → (s.links.get c).quiet
  air : ∀ c, s.arb.mode.holder = some c ∨ s.arb.mode.next = some c → s.admitted c = true ∨ x = some c

/-- The promise, with nobody's claims awaiting an answer, is the two invariants of the clients over a plan of distinct
numbers. -/
theorem State.owns_iff (s : State) :
    s.Owns none ↔ numbersDiffer s.plan ∧ s.detachedOwnsNothing ∧ s.airOnlyToPresent := by
  constructor
  · intro h
    refine ⟨h.numbers, fun c hc => ?_, fun c hc => ⟨?_, fun e he ho => ?_⟩, fun c hc => ?_, fun c hc => ?_⟩
    · have gone : ¬ s.attached c := fun attached => attached hc
      have absent : s.admitted c ≠ true := fun admitted => gone (State.attached_of_admitted admitted)
      obtain ⟨draft, notices⟩ := h.quiet c gone
      exact ⟨fun f hf ho => gone (ho ▸ h.flows f hf), fun e he ho => gone (ho ▸ h.entries e he),
        not_not.mp (mt (h.claims c) absent), not_not.mp (mt (h.bound c) gone), draft, notices⟩
    · exact not_not.mp (mt (h.claims c) (by simp [hc]))
    · by_contra awake
      have admitted := h.awake e he (by simpa using awake)
      rw [ho, hc] at admitted
      cases admitted
    · exact (h.air c (.inl hc)).resolve_right nofun
    · exact (h.air c (.inr hc)).resolve_right nofun
  · rintro ⟨numbers, detached, absent, holder, next⟩
    refine ⟨numbers, fun f hf hd => (detached _ hd).1 f hf rfl, fun e he hd => (detached _ hd).2.1 e he rfl,
      fun e he awake => ?_, fun c hb hd => hb (detached c hd).2.2.2.1, fun c hs => ?_, fun c hd => ?_, fun c hc => ?_⟩
    · by_contra away
      have suspended := (absent e.owner (by simpa using away)).2 e he rfl
      rw [awake] at suspended
      cases suspended
    · by_contra away
      exact hs (absent c (by simpa using away)).1
    · obtain ⟨_, _, _, _, draft, notices⟩ := detached c (not_not.mp hd)
      exact ⟨draft, notices⟩
    · exact .inl (hc.elim (holder c) (next c))

section Updates

variable {x : Option Client} {s t : State}

/-- The promise speaks of the tables, the live claims, the links and the arbiter's state, and it stands when more
clients are attached or admitted. -/
theorem State.Owns.mono (h : s.Owns x) (admitted : ∀ c, s.admitted c = true → t.admitted c = true)
    (attached : ∀ c, s.attached c → t.attached c) (flows : t.flows = s.flows) (plan : t.plan = s.plan)
    (live : t.live = s.live) (links : t.links = s.links) (mode : t.arb.mode = s.arb.mode) : t.Owns x where
  numbers := plan ▸ h.numbers
  flows f hf := attached _ (h.flows f (flows ▸ hf))
  entries e he := attached _ (h.entries e (plan ▸ he))
  awake e he ha := admitted _ (h.awake e (plan ▸ he) ha)
  bound c hc := attached _ (h.bound c (live ▸ hc))
  claims c hc := admitted _ (h.claims c (live ▸ hc))
  quiet c hc := links ▸ h.quiet c (mt (attached c) hc)
  air c hc := (h.air c (mode ▸ hc)).imp_left (admitted c)

theorem State.Owns.congr (h : s.Owns x) (sup : t.sup = s.sup) (flows : t.flows = s.flows) (plan : t.plan = s.plan)
    (live : t.live = s.live) (links : t.links = s.links) (mode : t.arb.mode = s.arb.mode) : t.Owns x :=
  h.mono (fun c => by unfold State.admitted; rw [sup]; exact id) (fun c => by unfold State.attached; rw [sup]; exact id)
    flows plan live links mode

/-! ### Records of one client -/

theorem State.Owns.onLink (h : s.Owns x) (c : Client) (f : Link → Link)
    (hf : s.attached c ∨ ∀ l, l.quiet → (f l).quiet) : (s.onLink c f).Owns x :=
  { h with
    quiet := fun d hd => by
      by_cases hdc : d = c
      · subst hdc
        rw [State.onLink_links, PerClient.get_set_same]
        exact hf.resolve_left hd _ (h.quiet d hd)
      · rw [State.onLink_links, PerClient.get_set_other _ _ _ _ hdc]
        exact h.quiet d hd }

theorem State.Owns.giveNotice (h : s.Owns x) (c : Client) (n : Notice) : (s.giveNotice c n).Owns x := by
  unfold State.giveNotice
  split
  · exact h
  · rename_i attached; exact h.onLink c _ (.inl attached)

theorem State.Owns.giveNoticeIf (h : s.Owns x) (p : Bool) (c : Client) (n : Notice) :
    (s.giveNoticeIf p c n).Owns x := by
  cases p
  · exact h
  · exact h.giveNotice c n

theorem State.Owns.answer (h : s.Owns x) (c : Client) (r : Result) (d : Value) : (s.answer c r d).Owns x :=
  h.onLink c _ (.inr fun _ => id)

theorem State.Owns.refuse (h : s.Owns x) (c : Client) (r : Result) : (s.refuse c r).Owns x := h.answer c r 0

theorem State.Owns.onLive (h : s.Owns x) (c : Client) (f : LiveClaim → LiveClaim)
    (hb : s.attached c ∨ ∀ l, l.binding = none → (f l).binding = none)
    (hs : s.admitted c = true ∨ ∀ l, l.state = .idle → (f l).state = .idle) : (s.onLive c f).Owns x :=
  { h with
    bound := fun d hd => by
      by_cases hdc : d = c
      · subst hdc
        rw [State.onLive_live, PerClient.get_set_same] at hd
        exact hb.elim id fun keep => h.bound d fun e => hd (keep _ e)
      · rw [State.onLive_live, PerClient.get_set_other _ _ _ _ hdc] at hd
        exact h.bound d hd
    claims := fun d hd => by
      by_cases hdc : d = c
      · subst hdc
        rw [State.onLive_live, PerClient.get_set_same] at hd
        exact hs.elim id fun keep => h.claims d fun e => hd (keep _ e)
      · rw [State.onLive_live, PerClient.get_set_other _ _ _ _ hdc] at hd
        exact h.claims d hd }

/-- A client's record changed in its deadline and its freeze alone, or to an admitted state. -/
theorem State.Owns.onSup (h : s.Owns x) (c : Client) (f : Supervision → Supervision)
    (hf : ∀ v, (f v).state = v.state ∨ (f v).state = .opening ∨ (f v).state = .active) : (s.onSup c f).Owns x := by
  have state : ∀ d, ((s.onSup c f).sup.get d).state = (s.sup.get d).state ∨
      ((s.onSup c f).sup.get d).state = .opening ∨ ((s.onSup c f).sup.get d).state = .active := fun d => by
    by_cases hdc : d = c
    · subst hdc; simpa using hf (s.sup.get d)
    · simp [hdc]
  refine h.mono (fun d hd => ?_) (fun d hd => ?_) rfl rfl rfl rfl rfl
  · rw [State.admitted_iff] at hd ⊢
    rcases state d with e | e
    · rwa [e]
    · exact e
  · unfold State.attached at hd ⊢
    rcases state d with e | e | e <;> rw [e]
    · exact hd
    · nofun
    · nofun

/-! ### Tables -/

theorem State.Owns.setFlows (h : s.Owns x) {fs : List Flow} (hf : ∀ f ∈ fs, s.attached f.owner) :
    State.Owns x { s with flows := fs } := { h with flows := hf }

theorem State.Owns.onFlow (h : s.Owns x) (k : Nat) (f : Flow → Flow)
    (hf : ∀ y ∈ s.flows, y.slot = k → (f y).owner = y.owner) : (s.onFlow k f).Owns x := by
  refine h.setFlows fun g hg => ?_
  obtain ⟨y, hy, rfl⟩ := List.mem_map.mp hg
  split
  · rename_i hk
    rw [hf y hy hk]
    exact h.flows y hy
  · exact h.flows y hy

theorem State.Owns.setPlan (h : s.Owns x) {es : List Entry} (numbers : numbersDiffer es)
    (entries : ∀ e ∈ es, s.attached e.owner) (awake : ∀ e ∈ es, e.isSuspended = false → s.admitted e.owner = true) :
    State.Owns x { s with plan := es } := { h with numbers := numbers, entries := entries, awake := awake }

/-- Entries changed or removed one by one, each keeping its number and owner, and waking only for an admitted owner. -/
theorem State.Owns.filterMapPlan (h : s.Owns x) (f : Entry → Option Entry)
    (hn : ∀ e y, f e = some y → y.number = e.number ∧ y.owner = e.owner)
    (ha : ∀ e ∈ s.plan, ∀ y, f e = some y → y.isSuspended = false → e.isSuspended = false ∨ s.admitted e.owner = true) :
    State.Owns x { s with plan := s.plan.filterMap f } := by
  refine h.setPlan (h.numbers.filterMap f fun e y hy => (hn e y hy).1) (fun y hy => ?_) fun y hy awake => ?_
  · obtain ⟨e, he, hfe⟩ := List.mem_filterMap.mp hy
    rw [(hn e y hfe).2]
    exact h.entries e he
  · obtain ⟨e, he, hfe⟩ := List.mem_filterMap.mp hy
    rw [(hn e y hfe).2]
    exact (ha e he y hfe awake).elim (h.awake e he) id

theorem State.Owns.onEntry (h : s.Owns x) (n : Nat) (f : Entry → Option Entry)
    (hn : ∀ e y, f e = some y → y.number = e.number ∧ y.owner = e.owner)
    (ha : ∀ e ∈ s.plan, e.number = n → ∀ y, f e = some y → y.isSuspended = false →
      e.isSuspended = false ∨ s.admitted e.owner = true) : (s.onEntry n f).Owns x := by
  refine h.filterMapPlan _ (fun e y hy => ?_) fun e he y hy awake => ?_ <;> split at hy
  · exact hn e y hy
  · cases hy; exact ⟨rfl, rfl⟩
  · rename_i hen; exact ha e he hen y hy awake
  · cases hy; exact .inl awake

end Updates
end Sys2Proof.Machine
end

section
namespace Sys2Proof.Machine

/-! ## The promise under the arbiter's answers -/

section Answers

variable {x y : Option Client} {s t : State}

/-- A waiting client is OPENING or ACTIVE: a DUE entry is not SUSPENDED, a WAITING live claim not IDLE. -/
theorem State.Owns.admitted_of_waits (h : s.Owns x) {c : Client} (hw : s.waitingClaims c ≠ []) :
    s.admitted c = true := by
  rw [State.waitingClaims, Ne, List.append_eq_nil_iff, not_and_or] at hw
  rcases hw with live | due
  · refine h.claims c fun idle => live ?_
    simp [State.liveWaiting, idle]
  · have some : s.dueSlots c ≠ [] := mt List.map_eq_nil_iff.mpr due
    obtain ⟨k, hk⟩ := List.exists_mem_of_ne_nil _ some
    obtain ⟨e, he, rfl⟩ := List.mem_map.mp hk
    obtain ⟨he, hd⟩ := List.mem_filter.mp he
    simp only [Entry.isDue, Bool.and_eq_true, beq_iff_eq] at hd
    exact hd.1 ▸ h.awake e he (by simp [Entry.isSuspended, hd.2])

theorem State.Owns.admitted_of_pick (h : s.Owns x) {ok : Client → Bool} {c : Client} {w : Nat}
    (hp : s.pick ok = some (c, w)) : s.admitted c = true := by
  refine h.admitted_of_waits fun none => ?_
  have weight := (State.pick_some hp).2.1
  rw [(s.waitingWeight_eq_none_iff c).mpr none] at weight
  cases weight

/-! ### The single acts -/

/-- The air given anew, to admitted clients or to nobody, whatever it was before. -/
theorem State.Owns.setMode (h : s.Owns x) (m : ArbiterMode)
    (hm : ∀ c, m.holder = some c ∨ m.next = some c → s.admitted c = true) : (s.setMode m).Owns y := by
  rw [s.setMode_eq m]
  exact { h with air := fun c hc => .inl (hm c hc) }

theorem State.Owns.setPosition (h : s.Owns x) (c : Client) : (s.setPosition c).Owns x := { h with }

theorem State.Owns.setFree (h : s.Owns x) : (s.setMode .free).Owns y := h.setMode _ nofun

theorem State.Owns.setParking (h : s.Owns x) (g : AirTime) : (s.setMode (.parking g)).Owns y := h.setMode _ nofun

theorem State.Owns.setSettling (h : s.Owns x) {c : Client} (hc : s.admitted c = true) (g : AirTime) :
    (s.setMode (.settling c g)).Owns y := by
  refine h.setMode _ fun d hd => ?_
  rcases hd with hd | hd <;> cases hd
  exact hc

theorem State.Owns.setHeld (h : s.Owns x) {c : Client} (hc : s.admitted c = true) : (s.setMode (.held c)).Owns y := by
  refine h.setMode _ fun d hd => ?_
  rcases hd with hd | hd <;> cases hd
  exact hc

/-- A flow keeps its owner when its slot is won or cut, slot after slot. -/
theorem State.Owns.foldFlows (h : s.Owns x) (f : Flow → Flow) (hf : ∀ y, (f y).key = y.key) (ks : List Nat) :
    State.Owns x { s with flows := ks.foldl (fun fs k => onSlot k f fs) s.flows } := by
  refine h.setFlows fun g hg => ?_
  have key : g.key ∈ s.flows.map Flow.key := by
    rw [← foldl_onSlot_keys f hf ks s.flows]
    exact List.mem_map_of_mem hg
  obtain ⟨y, hy, same⟩ := List.mem_map.mp key
  have owner : g.owner = y.owner := congrArg (fun k => k.2.1) same.symm
  rw [owner]
  exact h.flows y hy

theorem Entry.isSuspended_iff (e : Entry) : e.isSuspended = true ↔ ∃ b, e.status = .suspended b := by
  unfold Entry.isSuspended
  cases e.status <;> simp

theorem Entry.isHolding_iff (e : Entry) : e.isHolding = true ↔ ∃ g, e.status = .holding g := by
  unfold Entry.isHolding
  cases e.status <;> simp

theorem Entry.isDue_iff (e : Entry) : e.isDue = true ↔ e.status = .due := by simp [Entry.isDue]

theorem Entry.not_suspended_of_holding {e : Entry} (h : e.isHolding = true) : e.isSuspended = false := by
  obtain ⟨g, hg⟩ := e.isHolding_iff.mp h
  simp [Entry.isSuspended, hg]

/-- Neither a grant nor a cut reaches a SUSPENDED entry. -/
theorem Entry.grantTo_suspended (c : Client) (now : AirTime) {e : Entry} (h : (e.grantTo c now).isSuspended = false) :
    e.isSuspended = false := by
  unfold Entry.grantTo at h
  split at h
  · rename_i due; simp [Entry.isSuspended, due.2]
  · exact h

theorem Entry.cutFor_suspended {c : Client} {now : AirTime} {e y : Entry} (hy : e.cutFor c now = some y)
    (h : y.isSuspended = false) : e.isSuspended = false := by
  unfold Entry.cutFor at hy
  split at hy
  · rename_i holding; exact Entry.not_suspended_of_holding holding.2
  · cases hy; exact h

theorem State.grantLive_idle (s : State) {l : LiveClaim} (h : l.state = .idle) : s.grantLive l = l := by
  simp [State.grantLive, h]

theorem State.cutLive_idle (s : State) {l : LiveClaim} (h : l.state = .idle) : s.cutLive l = l := by
  simp [State.cutLive, h]

theorem State.Owns.turnHolding (h : s.Owns x) (c : Client) : (s.turnHolding c).Owns x := by
  have flows := h.foldFlows Flow.won (fun _ => rfl) (s.waitingSlots c)
  have plan := flows.filterMapPlan (fun e => some (e.grantTo c s.clock))
    (fun e y hy => by cases hy; unfold Entry.grantTo; split <;> exact ⟨rfl, rfl⟩)
    (fun e _ y hy awake => .inl (by cases hy; exact Entry.grantTo_suspended c s.clock awake))
  have live := plan.onLive c (fun l => s.grantLive l) (.inr fun l hl => (s.grantLive_keeps l).2.2.trans hl)
    (.inr fun l hl => by rw [s.grantLive_idle hl]; exact hl)
  rw [List.filterMap_eq_map'] at live
  exact live

theorem State.Owns.cutHoldings (h : s.Owns x) (c : Client) : (s.cutHoldings c).Owns x := by
  have flows := h.foldFlows Flow.cut (fun _ => rfl) (s.holdingSlots c)
  have plan := flows.filterMapPlan (Entry.cutFor c s.clock)
    (fun e y hy => ⟨congrArg Prod.fst (Entry.cutFor_booking c s.clock e y hy), Entry.cutFor_owner hy⟩)
    (fun e _ y hy awake => .inl (Entry.cutFor_suspended hy awake))
  have live := plan.onLive c (fun l => s.cutLive l) (.inr fun l hl => (s.cutLive_keeps l).2.2.trans hl)
    (.inr fun l hl => by rw [s.cutLive_idle hl]; exact hl)
  exact (live.giveNotice c .cut).giveNoticeIf _ c .ended

/-! ### The answers -/

theorem State.Owns.settleToward (h : s.Owns x) {c : Client} (hc : s.admitted c = true) : (s.settleToward c).Owns y :=
  (h.setSettling hc _).setPosition c

theorem State.Owns.moveToDefault (h : s.Owns x) : s.moveToDefault.Owns y := (h.setParking _).setPosition _

theorem State.Owns.grant (h : s.Owns x) {c : Client} (hc : s.admitted c = true) : (s.grant c).Owns y :=
  (h.setHeld hc).turnHolding c

theorem State.Owns.park (h : s.Owns x) : s.park.Owns y := by
  rcases s.park_cases with ⟨_, _, e⟩ | ⟨g, _, _, e⟩ | ⟨_, e⟩ <;> rw [e]
  · exact h.setFree
  · exact h.setParking g
  · exact h.moveToDefault

/-- A hand-off gives the air anew, so nobody's claims await an answer after it. -/
theorem State.Owns.handOff (h : s.Owns x) : s.handOff.Owns y := by
  rcases s.handOff_cases with ⟨_, e⟩ | ⟨c, w, hp, ⟨_, _, e⟩ | ⟨g, _, _, e⟩ | ⟨_, e⟩⟩ <;> rw [e]
  · exact h.park
  · exact h.grant (h.admitted_of_pick hp)
  · exact h.setSettling (h.admitted_of_pick hp) g
  · exact h.settleToward (h.admitted_of_pick hp)

theorem State.Owns.displacementCheck (h : s.Owns x) : s.displacementCheck.Owns x := by
  rcases s.displacementCheck_cases with e | ⟨n, g, d, w, _, hp, _, e⟩ <;> rw [e]
  · exact h
  · exact h.settleToward (h.admitted_of_pick hp)

theorem State.cutHoldings_admitted (s : State) (c d : Client) : (s.cutHoldings c).admitted d = s.admitted d := by
  unfold State.admitted
  rw [(s.cutHoldings_keeps c).sup]

theorem State.Owns.preempt (h : s.Owns x) (c : Client) {d : Client} (hd : s.admitted d = true) :
    (s.preempt c d).Owns x := by
  have cut : (s.cutHoldings c).countPreemption.Owns x := { h.cutHoldings c with }
  have settled : (s.preempted c d).Owns x := cut.settleToward ((s.cutHoldings_admitted c d).trans hd)
  rw [State.preempt_eq]
  split
  · exact settled
  · exact settled.displacementCheck

theorem State.Owns.preemptionCheck (h : s.Owns x) : s.preemptionCheck.Owns x := by
  rcases s.preemptionCheck_cases with e | ⟨c, d, w, _, hp, _, _, e⟩ <;> rw [e]
  · exact h
  · exact h.preempt c (h.admitted_of_pick hp)

theorem State.Owns.endGuard (h : s.Owns none) : s.endGuard.Owns none := by
  unfold State.endGuard
  split
  · rename_i c g hm
    exact h.grant ((h.air c (.inr (by rw [hm]; rfl))).resolve_right nofun)
  · exact h.setFree
  · exact h

theorem State.Owns.passZeroGuard (h : t.Owns none) (b : State) : (b.passZeroGuard t).Owns none := by
  rcases b.passZeroGuard_cases t with e | ⟨_, _, _, e⟩ <;> rw [e]
  · exact h
  · exact h.endGuard

theorem State.Owns.stateCheck (h : s.Owns none) : s.stateCheck.Owns none := by
  rcases s.stateCheck_cases with e | e | e <;> rw [e]
  · exact h.preemptionCheck.passZeroGuard s
  · exact h.displacementCheck.passZeroGuard s
  · exact h

theorem State.Owns.stateCheckIf (h : s.Owns none) (p : Bool) : (s.stateCheckIf p).Owns none := by
  cases p
  · exact h
  · exact h.stateCheck

theorem State.Owns.claimArrived (h : s.Owns none) (c : Client) : (s.claimArrived c).Owns none := by
  rcases s.claimArrived_cases c with e | e | e | e | e <;> rw [e]
  · exact h.handOff.passZeroGuard s
  · exact h
  · exact h.displacementCheck.passZeroGuard s
  · exact (h.turnHolding c).passZeroGuard s
  · exact h.preemptionCheck.passZeroGuard s

theorem State.Owns.claimsLeft (h : s.Owns none) (b : State) (c : Client) : (b.claimsLeft s c).Owns none := by
  rcases b.claimsLeft_cases s c with e | e | e | e <;> rw [e]
  · exact h.handOff.passZeroGuard s
  · exact h.preemptionCheck.passZeroGuard s
  · exact h.displacementCheck.passZeroGuard s
  · exact h

/-- A client with no claim left is answered by a hand-off where it is the holder or the next holder, and by nothing
otherwise (R98, R99, R107). -/
theorem State.claimsLeft_of_gone (b : State) {s : State} {c : Client} (hw : s.waitingClaims c = [])
    (hh : s.holdingClaims c = []) :
    (s.arb.mode.holder = some c ∨ s.arb.mode.next = some c) ∧ b.claimsLeft s c = s.passZeroGuard s.handOff ∨
      s.arb.mode.holder ≠ some c ∧ s.arb.mode.next ≠ some c ∧ b.claimsLeft s c = s := by
  by_cases holder : s.arb.mode.holder = some c
  · have held : s.arb.mode = .held c := by
      cases hm : s.arb.mode <;> rw [hm] at holder <;> cases holder
      rfl
    exact .inl ⟨.inl holder, b.claimsLeft_held_none held hh⟩
  by_cases next : s.arb.mode.next = some c
  · obtain ⟨g, settling⟩ : ∃ g, s.arb.mode = .settling c g := by
      cases hm : s.arb.mode <;> rw [hm] at next <;> cases next
      exact ⟨_, rfl⟩
    exact .inl ⟨.inr next, b.claimsLeft_settling_none settling hw⟩
  · exact .inr ⟨holder, next, b.claimsLeft_other holder next⟩

/-- The arbiter's answer to the departure of a client with no claim left: the air is an admitted client's again
(R107). -/
theorem State.Owns.claimsLeft_of_gone (b : State) {c : Client} (h : s.Owns (some c)) (hw : s.waitingClaims c = [])
    (hh : s.holdingClaims c = []) : (b.claimsLeft s c).Owns none := by
  rcases b.claimsLeft_of_gone hw hh with ⟨_, e⟩ | ⟨holder, next, e⟩ <;> rw [e]
  · exact h.handOff.passZeroGuard s
  · refine { h with air := fun d hd => .inl ((h.air d hd).resolve_right fun same => ?_) }
    cases same
    exact hd.elim holder next

end Answers
end Sys2Proof.Machine
end

section
namespace Sys2Proof.Machine

/-! ## The promise under the rows -/

section Rows

variable {x : Option Client} {s t : State}

/-! ### Entries -/

theorem State.entryAt_some {s : State} {n : Nat} {e : Entry} (h : s.entryAt n = some e) : e ∈ s.plan ∧ e.number = n :=
  ⟨List.mem_of_find?_eq_some h, by simpa using List.find?_some h⟩

theorem State.entryAt_congr (h : t.plan = s.plan) (n : Nat) : t.entryAt n = s.entryAt n := by
  unfold State.entryAt
  rw [h]

theorem State.entryNamed_some {s : State} {c : Client} {n : Nat} {e : Entry} (h : s.entryNamed c n = some e) :
    s.entryAt n = some e ∧ e.owner = c := by
  obtain ⟨he, howner⟩ := Option.filter_eq_some_iff.mp h
  exact ⟨he, by simpa using howner⟩

/-- An act on the entry of a number acts on that entry alone. -/
theorem State.Owns.onEntryAt (h : s.Owns x) {n : Nat} {e : Entry} (he : s.entryAt n = some e) (f : Entry → Option Entry)
    (hn : ∀ e y, f e = some y → y.number = e.number ∧ y.owner = e.owner)
    (ha : ∀ y, f e = some y → y.isSuspended = false → e.isSuspended = false ∨ s.admitted e.owner = true) :
    (s.onEntry n f).Owns x := by
  obtain ⟨mem, number⟩ := State.entryAt_some he
  refine h.onEntry n f hn fun d hd hdn y hy => ?_
  rw [h.numbers.eq_of_number hd mem (hdn.trans number.symm)] at hy ⊢
  exact ha y hy

theorem State.Owns.wake (h : s.Owns none) (n : Nat) : (s.wake n).Owns none := by
  rcases s.wake_cases n with e | ⟨e, he, scheduled, _, ha⟩
  · rw [e]; exact h
  · rw [ha]
    refine State.Owns.claimArrived (h.onEntryAt he _ (fun e y hy => ?_) fun _ _ _ => .inl ?_) _
    · cases hy; exact ⟨rfl, rfl⟩
    · simp [Entry.isSuspended, scheduled]

theorem State.Owns.wakeAll (h : s.Owns none) (ns : List Nat) : (s.wakeAll ns).Owns none := by
  induction ns generalizing s with
  | nil => exact h
  | cons n ns ih => exact ih (h.wake n)

theorem State.Owns.removeEntry (h : s.Owns none) (e : Entry) (ended : Bool) : (s.removeEntry e ended).Owns none := by
  have gone : ((s.onEntry e.number fun _ => none).giveNoticeIf ended e.owner .ended).Owns none :=
    (h.onEntry _ _ (fun _ _ hy => by cases hy) fun _ _ _ _ hy => by cases hy).giveNoticeIf _ _ _
  unfold State.removeEntry State.afterRemoval
  split
  · exact gone.claimsLeft _ _
  · exact gone

theorem Entry.advance_owner {now : AirTime} {e y : Entry} (h : e.advance now = some y) :
    y.number = e.number ∧ y.owner = e.owner := by
  have booking := Entry.advance_booking now e y h
  simp only [Entry.booking, Prod.mk.injEq] at booking
  exact ⟨booking.1, booking.2.1⟩

/-- An occurrence's end advances an entry that was not SUSPENDED. -/
theorem State.Owns.advanceEntry (h : s.Owns x) {n : Nat} {e : Entry} (he : s.entryAt n = some e)
    (ha : e.isSuspended = false) : (s.advanceEntry e).Owns x := by
  rw [← (State.entryAt_some he).2] at he
  exact (h.onEntryAt he _ (fun _ _ => Entry.advance_owner) fun _ _ _ => .inl ha).giveNoticeIf _ _ _

theorem State.Owns.missOccurrence (h : s.Owns none) {n : Nat} {e : Entry} (he : s.entryAt n = some e)
    (hd : e.isDue = true) : (s.missOccurrence e).Owns none := by
  have missed : (((s.onFlow e.flow Flow.missedOne).countMiss).giveNotice e.owner .missed).Owns none := by
    have counted : ((s.onFlow e.flow Flow.missedOne).countMiss).Owns none :=
      { h.onFlow e.flow Flow.missedOne fun _ _ _ => rfl with }
    exact counted.giveNotice e.owner .missed
  have awake : e.isSuspended = false := by simp [Entry.isSuspended, e.isDue_iff.mp hd]
  have advanced := missed.advanceEntry (n := n) ((State.entryAt_congr (by simp) n).trans he) awake
  exact ((advanced.claimsLeft _ _).stateCheckIf _).wake _

theorem State.Owns.serveOccurrence (h : s.Owns none) {n : Nat} {e : Entry} (he : s.entryAt n = some e)
    (hh : e.isHolding = true) : (s.serveOccurrence e).Owns none := by
  have served := (h.onFlow e.flow Flow.servedOne fun _ _ _ => rfl).advanceEntry (n := n) he
    (Entry.not_suspended_of_holding hh)
  exact (served.wake _).claimsLeft _ _

/-! ### Flows and classes -/

theorem State.Owns.onBoundFlow (h : s.Owns x) (c : Client) (f : Flow → Flow) (hf : ∀ y, (f y).owner = y.owner) :
    (s.onBoundFlow c f).Owns x := by
  unfold State.onBoundFlow
  split
  · exact h
  · exact h.onFlow _ f fun y _ _ => hf y

/-- A hold limit ends the live claim of an OPENING or ACTIVE client. -/
theorem State.Owns.expireHold (h : s.Owns none) {c : Client} (hc : (s.live.get c).state ≠ .idle) :
    (s.expireHold c).Owns none := by
  have spent := h.onLive c (fun l => { l with state := .spent }) (.inr fun _ => id) (.inl (h.claims c hc))
  have counted : (((s.onLive c fun l => { l with state := .spent }).onBoundFlow c Flow.overstayed).countOverstay).Owns
      none := { spent.onBoundFlow c Flow.overstayed fun _ => rfl with }
  have reported : (((((s.onLive c fun l => { l with state := .spent }).onBoundFlow c
      Flow.overstayed).countOverstay).giveNotice c .overstay).setPortNotice .overstay).Owns none :=
    { counted.giveNotice c .overstay with }
  exact reported.claimsLeft _ _

theorem State.Owns.refreshHold (h : s.Owns none) (c : Client) : (s.refreshHold c).Owns none := by
  unfold State.refreshHold
  split
  · rename_i u start d k holding _
    have busy : (s.live.get c).state ≠ .idle := by simp [holding]
    have refreshed := h.onLive c
      (fun l => { l with state := .holding u start (after start (s.holdLimitOf k)) }) (.inr fun _ => id)
      (.inl (h.claims c busy))
    dsimp only
    split
    · exact refreshed.expireHold (by simp)
    · exact refreshed
  · exact h

theorem State.Owns.refreshHoldOfClass (h : s.Owns none) (k : FlowClass) (c : Client) :
    (s.refreshHoldOfClass k c).Owns none := by
  unfold State.refreshHoldOfClass
  split
  · exact h
  · split
    · exact h
    · split
      · exact h.refreshHold c
      · exact h

theorem State.Owns.refreshHolds (h : s.Owns none) (k : FlowClass) : (s.refreshHolds k).Owns none :=
  ((h.refreshHoldOfClass k .nr).refreshHoldOfClass k .sr).refreshHoldOfClass k .ar

theorem State.Owns.reclassed (h : s.Owns none) {f g : Flow} (hf : f ∈ s.flows) (hg : g.owner = f.owner) :
    (s.reclassed f g).Owns none := by
  have record : (s.onFlow f.slot fun _ => g).Owns none := by
    refine h.setFlows fun y hy => ?_
    obtain ⟨z, hz, rfl⟩ := List.mem_map.mp hy
    split
    · rw [hg]; exact h.flows f hf
    · exact h.flows z hz
  unfold State.reclassed State.classChanged
  split
  · exact record
  · split
    · exact (record.refreshHold _).stateCheck
    · exact record.stateCheck

theorem State.Owns.setPin (h : s.Owns none) {f : Flow} (hf : f ∈ s.flows) (p : Option FlowClass) :
    (s.setPin f p).Owns none := by
  unfold State.setPin
  split
  · exact h
  · exact (h.giveNotice f.owner .policy).reclassed (by simpa using hf) rfl

/-! ### Bookings -/

theorem State.freeEntry_free {n : Nat} (h : s.freeEntry = some n) : ∀ e ∈ s.plan, e.number ≠ n := by
  simpa using List.find?_some h

theorem State.Owns.commitPost (h : s.Owns none) {c : Client} (hc : s.admitted c = true) {y : Entry} (hy : y.owner = c)
    (hn : ∀ e ∈ s.plan, e.number ≠ y.number) (trimmed advanced : Bool) :
    (s.commitPost c y trimmed advanced).Owns none := by
  have booked : State.Owns none { s with plan := insertEntry y s.plan } := by
    refine h.setPlan (h.numbers.insertEntry hn) (fun e he => ?_) fun e he awake => ?_ <;>
      rcases (mem_insertEntry y e s.plan).mp he with rfl | he
    · exact hy ▸ State.attached_of_admitted hc
    · exact h.entries e he
    · exact hy ▸ hc
    · exact h.awake e he awake
  exact (booked.wake _).answer c _ _

theorem State.Owns.postDraft (h : s.Owns none) {c : Client} (hc : s.admitted c = true) (f : Flow) (d : Draft) :
    (s.postDraft c f d).Owns none := by
  unfold State.postDraft
  split
  · exact h.refuse c _
  · split
    · exact h.refuse c _
    · split
      · exact h.refuse c _
      · rename_i n hn
        split
        · exact h.refuse c _
        · split
          · exact h.commitPost hc rfl (State.freeEntry_free hn) _ _
          · have reported : (s.setPortNotice .refused).Owns none := { h with }
            exact reported.refuse c _

theorem State.Owns.retimeEntry (h : s.Owns none) (e : Entry) (o : BitVec 13) : (s.retimeEntry e o).Owns none := by
  have keep (f : Entry → Entry) (hf : ∀ y, (f y).number = y.number ∧ (f y).owner = y.owner ∧
      (f y).isSuspended = y.isSuspended) : (s.onEntry e.number fun y => some (f y)).Owns none := by
    refine h.onEntry _ _ (fun y z hz => ?_) fun y _ _ z hz awake => .inl ?_ <;> cases hz
    · exact ⟨(hf y).1, (hf y).2.1⟩
    · exact (hf y).2.2.symm.trans awake
  unfold State.retimeEntry
  split
  · have moved := keep (fun y => { y with start := clampReached s.clock (offsetBy y.start o) }) fun _ => ⟨rfl, rfl, rfl⟩
    exact moved.wake _
  · exact h
  · exact keep (fun y => { y with pendingOffset := some o }) fun _ => ⟨rfl, rfl, rfl⟩

end Rows
end Sys2Proof.Machine
end

section
namespace Sys2Proof.Machine

/-! ## A client silenced, revived or torn down -/

section Clients

variable {x : Option Client} {s t : State} {c : Client}

/-- A client whose live claim is IDLE and whose entries are all SUSPENDED has no claim on the board (R84). -/
theorem State.no_claims (hl : (s.live.get c).state = .idle) (he : ∀ e ∈ s.plan, e.owner = c → e.isSuspended = true) :
    s.waitingClaims c = [] ∧ s.holdingClaims c = [] := by
  have due : s.dueSlots c = [] := by
    refine List.map_eq_nil_iff.mpr (List.filter_eq_nil_iff.mpr fun e hm hd => ?_)
    simp only [Bool.and_eq_true, beq_iff_eq, Entry.isDue_iff] at hd
    have suspended := he e hm hd.1
    rw [Entry.isSuspended, hd.2] at suspended
    cases suspended
  have held : s.heldSlots c = [] := by
    refine List.map_eq_nil_iff.mpr (List.filter_eq_nil_iff.mpr fun e hm hd => ?_)
    simp only [Bool.and_eq_true, beq_iff_eq] at hd
    have suspended := he e hm hd.1
    rw [Entry.not_suspended_of_holding hd.2] at suspended
    cases suspended
  simp [State.waitingClaims, State.holdingClaims, State.liveWaiting, State.liveHolding, hl, due, held]

theorem State.attached_other {v : Supervision} (hs : t.sup = s.sup.set c v) {d : Client} (hd : d ≠ c) :
    t.attached d ↔ s.attached d := by
  unfold State.attached
  rw [hs, PerClient.get_set_other _ _ _ _ hd]

theorem State.admitted_other {v : Supervision} (hs : t.sup = s.sup.set c v) {d : Client} (hd : d ≠ c) :
    t.admitted d = s.admitted d := by
  unfold State.admitted
  rw [hs, PerClient.get_set_other _ _ _ _ hd]

/-! ### Silence -/

/-- The client silenced, before the arbiter's answer (R31, R32, R33). -/
def State.silenced (s : State) (c : Client) : State :=
  { s with
    sup := s.sup.set c ⟨.silent, none, (s.sup.get c).frozen⟩
    live := s.live.set c { s.live.get c with state := .idle }
    plan := s.plan.map fun e => if e.owner = c then e.suspend s.clock else e
    port := { s.port with flags := s.port.flags ||| portBit (.silent c) } }

theorem State.silence_eq (s : State) (c : Client) : s.silence c = s.claimsLeft (s.silenced c) c := rfl

theorem Entry.suspend_isSuspended (e : Entry) (now : AirTime) : (e.suspend now).isSuspended = true := by
  unfold Entry.suspend
  split <;> rfl

theorem Entry.suspend_owner (e : Entry) (now : AirTime) :
    (e.suspend now).number = e.number ∧ (e.suspend now).owner = e.owner := by
  have booking := Entry.suspend_booking now e
  simp only [Entry.booking, Prod.mk.injEq] at booking
  exact ⟨booking.1, booking.2.1⟩

/-- What silencing `c` makes of an entry keeps its number and its owner. -/
theorem Entry.silenced_owner (e : Entry) (c : Client) (now : AirTime) :
    (if e.owner = c then e.suspend now else e).number = e.number ∧
      (if e.owner = c then e.suspend now else e).owner = e.owner := by
  split
  · exact e.suspend_owner now
  · exact ⟨rfl, rfl⟩

theorem State.silenced_suspended (s : State) (c : Client) :
    ∀ e ∈ (s.silenced c).plan, e.owner = c → e.isSuspended = true := by
  intro e he ho
  obtain ⟨d, hd, rfl⟩ := List.mem_map.mp he
  rw [(d.silenced_owner c s.clock).2] at ho
  rw [if_pos ho]
  exact d.suspend_isSuspended _

theorem State.silenced_no_claims (s : State) (c : Client) :
    (s.silenced c).waitingClaims c = [] ∧ (s.silenced c).holdingClaims c = [] :=
  State.no_claims (congrArg LiveClaim.state (PerClient.get_set_same _ _ _)) (s.silenced_suspended c)

theorem State.Owns.silenced (h : s.Owns none) (c : Client) : (s.silenced c).Owns (some c) := by
  have sup : (s.silenced c).sup = s.sup.set c ⟨.silent, none, (s.sup.get c).frozen⟩ := rfl
  have attached : ∀ d, s.attached d → (s.silenced c).attached d := fun d hd => by
    by_cases hdc : d = c
    · subst hdc
      unfold State.attached
      rw [sup, PerClient.get_set_same]
      nofun
    · exact (State.attached_other sup hdc).mpr hd
  refine ⟨h.numbers.map _ fun e => (e.silenced_owner c s.clock).1, fun f hf => attached _ (h.flows f hf),
    fun e he => ?_, fun e he ha => ?_, fun d hd => attached d ?_, fun d hd => ?_, fun d hd => h.quiet d (mt (attached d) hd),
    fun d hd => ?_⟩
  · obtain ⟨d, hd, rfl⟩ := List.mem_map.mp he
    rw [(d.silenced_owner c s.clock).2]
    exact attached _ (h.entries d hd)
  · by_cases ho : e.owner = c
    · exact absurd (s.silenced_suspended c e he ho) (by simp [ha])
    · obtain ⟨d, hd, rfl⟩ := List.mem_map.mp he
      rw [(d.silenced_owner c s.clock).2] at ho ⊢
      rw [if_neg ho] at ha
      exact (State.admitted_other sup ho).trans (h.awake d hd ha)
  · have kept := PerClient.map_get_set LiveClaim.binding s.live c d { s.live.get c with state := .idle } rfl
    exact h.bound d (kept ▸ hd)
  · by_cases hdc : d = c
    · subst hdc
      exact absurd (congrArg LiveClaim.state (PerClient.get_set_same _ _ _)) hd
    · have kept : (s.silenced c).live.get d = s.live.get d := PerClient.get_set_other _ _ _ _ hdc
      exact (State.admitted_other sup hdc).trans (h.claims d (kept ▸ hd))
  · by_cases hdc : d = c
    · exact .inr (congrArg some hdc.symm)
    · exact .inl ((State.admitted_other sup hdc).trans ((h.air d hd).resolve_right nofun))

theorem State.Owns.silence (h : s.Owns none) (c : Client) : (s.silence c).Owns none := by
  obtain ⟨waiting, holding⟩ := s.silenced_no_claims c
  exact (h.silenced c).claimsLeft_of_gone s waiting holding

/-! ### Revival -/

theorem Entry.revive_owner {now : AirTime} {e y : Entry} (h : e.revive now = some y) :
    y.number = e.number ∧ y.owner = e.owner := by
  have booking := Entry.revive_booking now e y h
  simp only [Entry.booking, Prod.mk.injEq] at booking
  exact ⟨booking.1, booking.2.1⟩

/-- The client revived, before its notices are given and its reached entries fall due (R34). -/
def State.reopened (s : State) (c : Client) : State :=
  { s with
    sup := s.sup.set c { s.sup.get c with state := .opening, deadline := s.openingDeadline c }
    plan := s.plan.filterMap fun e => if e.owner = c then e.revive s.clock else some e }

/-- Whether the revival removes a one-shot of the client (R34). -/
def State.reviveRemoves (s : State) (c : Client) : Bool :=
  s.plan.any fun e => e.owner == c && (e.revive s.clock).isNone

/-- The numbers of the client's entries. -/
def State.numbersOf (s : State) (c : Client) : List Nat := (s.plan.filter fun e => e.owner == c).map (·.number)

theorem State.reviveClient_eq (s : State) (c : Client) :
    s.reviveClient c =
      (((s.reopened c).giveNoticeIf (s.reviveRemoves c) c .ended).giveNotice c .restored).wakeAll
        ((s.reopened c).numbersOf c) := rfl

theorem State.reopened_admitted (s : State) (c : Client) : (s.reopened c).admitted c = true := by
  simp [State.admitted, State.reopened]

theorem Entry.reopened_owner {now : AirTime} {e y : Entry}
    (h : (if e.owner = c then e.revive now else some e) = some y) : y.number = e.number ∧ y.owner = e.owner := by
  split at h
  · exact Entry.revive_owner h
  · cases h; exact ⟨rfl, rfl⟩

theorem State.Owns.reopened (h : s.Owns none) (c : Client) : (s.reopened c).Owns none := by
  have opened := h.onSup c (fun v => { v with state := .opening, deadline := s.openingDeadline c })
    fun _ => .inr (.inl rfl)
  refine opened.filterMapPlan (fun e => if e.owner = c then e.revive s.clock else some e)
    (fun _ _ => Entry.reopened_owner) fun e _ y hy awake => ?_
  split at hy
  · rename_i ho
    exact .inr (ho ▸ s.reopened_admitted c)
  · cases hy; exact .inl awake

theorem State.Owns.reviveClient (h : s.Owns none) (c : Client) : (s.reviveClient c).Owns none :=
  (((h.reopened c).giveNoticeIf _ c _).giveNotice c _).wakeAll _

/-! ### Teardown -/

/-- The client torn down but for NR's channel note, before the arbiter's answer (R36). -/
def State.stripped (s : State) (c : Client) : State :=
  { s with
    sup := s.sup.set c ⟨.detached, none, (s.sup.get c).frozen⟩
    live := s.live.set c { s.live.get c with state := .idle, binding := none }
    links := s.links.set c { s.links.get c with draft := .initial, notices := 0 }
    flows := s.flows.filter fun f => f.owner != c
    plan := s.plan.filter fun e => e.owner != c }

/-- The client torn down, before the arbiter's answer (R36). -/
def State.emptied (s : State) (c : Client) : State :=
  if c = .nr then (s.stripped c).recompute none else s.stripped c

theorem State.teardown_eq (s : State) (c : Client) : s.teardown c = s.claimsLeft (s.emptied c) c := rfl

theorem State.Owns.recompute (h : s.Owns x) (note : Option ChannelNote) : (s.recompute note).Owns x := by
  have written : State.Owns x { s with channel := computeChannel note s.policy.channelGuard } := { h with }
  exact (written.giveNoticeIf _ .sr .mask).giveNoticeIf _ .ar .mask

theorem State.Owns.stripped (h : s.Owns none) (c : Client) : (s.stripped c).Owns (some c) := by
  have sup : (s.stripped c).sup = s.sup.set c ⟨.detached, none, (s.sup.get c).frozen⟩ := rfl
  have attached {d : Client} (hd : d ≠ c) := State.attached_other (t := s.stripped c) sup hd
  have admitted {d : Client} (hd : d ≠ c) := State.admitted_other (t := s.stripped c) sup hd
  refine ⟨h.numbers.filter _, fun f hf => ?_, fun e he => ?_, fun e he ha => ?_, fun d hd => ?_, fun d hd => ?_,
    fun d hd => ?_, fun d hd => ?_⟩
  · obtain ⟨hf, ho⟩ := List.mem_filter.mp hf
    exact (attached (by simpa using ho)).mpr (h.flows f hf)
  · obtain ⟨he, ho⟩ := List.mem_filter.mp he
    exact (attached (by simpa using ho)).mpr (h.entries e he)
  · obtain ⟨he, ho⟩ := List.mem_filter.mp he
    exact (admitted (by simpa using ho)).trans (h.awake e he ha)
  · by_cases hdc : d = c
    · subst hdc
      exact absurd (congrArg LiveClaim.binding (PerClient.get_set_same _ _ _)) hd
    · have kept : (s.stripped c).live.get d = s.live.get d := PerClient.get_set_other _ _ _ _ hdc
      exact (attached hdc).mpr (h.bound d (kept ▸ hd))
  · by_cases hdc : d = c
    · subst hdc
      exact absurd (congrArg LiveClaim.state (PerClient.get_set_same _ _ _)) hd
    · have kept : (s.stripped c).live.get d = s.live.get d := PerClient.get_set_other _ _ _ _ hdc
      exact (admitted hdc).trans (h.claims d (kept ▸ hd))
  · by_cases hdc : d = c
    · subst hdc
      unfold State.stripped
      dsimp only
      rw [PerClient.get_set_same]
      exact ⟨rfl, rfl⟩
    · have kept : (s.stripped c).links.get d = s.links.get d := PerClient.get_set_other _ _ _ _ hdc
      rw [kept]
      exact h.quiet d (mt (attached hdc).mpr hd)
  · by_cases hdc : d = c
    · exact .inr (congrArg some hdc.symm)
    · exact .inl ((admitted hdc).trans ((h.air d hd).resolve_right nofun))

theorem State.Owns.emptied (h : s.Owns none) (c : Client) : (s.emptied c).Owns (some c) := by
  unfold State.emptied
  split
  · exact (h.stripped c).recompute none
  · exact h.stripped c

theorem State.giveNotice_eq (s : State) (c : Client) (n : Notice) :
    s.giveNotice c n = { s with links := (s.giveNotice c n).links } := by
  unfold State.giveNotice
  split <;> rfl

theorem State.giveNoticeIf_eq (s : State) (p : Bool) (c : Client) (n : Notice) :
    s.giveNoticeIf p c n = { s with links := (s.giveNoticeIf p c n).links } := by
  cases p
  · rfl
  · exact s.giveNotice_eq c n

/-- A recomputation writes the channel map unit and notices alone (R134, R135). -/
theorem State.recompute_frame (s : State) (note : Option ChannelNote) :
    s.recompute note = { s with
      channel := computeChannel note s.policy.channelGuard, links := (s.recompute note).links } := by
  unfold State.recompute
  dsimp only
  rw [State.giveNoticeIf_eq _ _ .ar, State.giveNoticeIf_eq _ _ .sr]

/-- A teardown's channel note and notices apart, it leaves the state `stripped`. -/
theorem State.emptied_frame (s : State) (c : Client) :
    s.emptied c = { s.stripped c with channel := (s.emptied c).channel, links := (s.emptied c).links } := by
  unfold State.emptied
  split
  · rw [State.recompute_frame]
  · rfl

/-- A torn-down client has no claim on the board. -/
theorem State.emptied_no_claims (s : State) (c : Client) :
    (s.emptied c).waitingClaims c = [] ∧ (s.emptied c).holdingClaims c = [] := by
  rw [s.emptied_frame c]
  refine State.no_claims (congrArg LiveClaim.state (PerClient.get_set_same _ _ _)) fun e he ho => ?_
  have other : e.owner ≠ c := by simpa using (List.mem_filter.mp he).2
  exact absurd ho other

theorem State.Owns.teardownIfAttached (h : s.Owns none) (c : Client) : (s.teardownIfAttached c).Owns none := by
  unfold State.teardownIfAttached
  split
  · exact h
  · obtain ⟨waiting, holding⟩ := s.emptied_no_claims c
    exact (h.emptied c).claimsLeft_of_gone s waiting holding

end Clients
end Sys2Proof.Machine
end

section
namespace Sys2Proof.Machine

/-! ## Every row keeps the promise -/

section Steps

variable {s t : State} {c : Client}

theorem State.Owns.whenRunning {f : State → State} (he : s.whenRunning f = .next t) (h : s.Owns none)
    (hf : (f s).Owns none) : t.Owns none := by
  cases he
  split
  · exact hf
  · exact h

theorem State.Owns.presence (h : s.Owns none) (c : Client) : (s.presence c).Owns none := by
  unfold State.presence
  split
  · exact h.onSup c _ fun _ => .inr (.inr rfl)
  · exact h

/-- A passing frame's evidence of presence keeps the promise; its act is left to keep it. -/
theorem State.Owns.takeFrame {act : State → State} (h : s.Owns none) (c : Client)
    (ha : ∀ u : State, u.Owns none → (act u).Owns none) : (s.takeFrame c act).Owns none := by
  unfold State.takeFrame
  split
  · exact ha _ (State.Owns.presence (h.onLink c Link.consume (.inr fun _ => id)) c)
  · exact h

theorem State.Owns.ifAdmitted {act : State → State} (h : s.Owns none) (c : Client)
    (ha : s.admitted c = true → (act s).Owns none) : (s.ifAdmitted c act).Owns none := by
  unfold State.ifAdmitted
  split
  · rename_i admitted; exact ha admitted
  · exact h.refuse c _

/-- A row of a frame that only an OPENING or ACTIVE client is admitted to. -/
theorem State.Owns.admittedFrame {act : State → State} (h : s.Owns none)
    (he : (s.whenRunning fun s => s.takeFrame c fun s => s.ifAdmitted c act) = .next t)
    (ha : ∀ u : State, u.Owns none → u.admitted c = true → (act u).Owns none) : t.Owns none :=
  h.whenRunning he (h.takeFrame c fun u hu => hu.ifAdmitted c (ha u hu))

theorem State.Owns.finishWrite (h : s.Owns none) (r : PortResult) (bs : List Byte) : (s.finishWrite r bs).Owns none :=
  { h with }

theorem State.Owns.refuseWrite (h : s.Owns none) (r : PortResult) : (s.refuseWrite r).Owns none := { h with }

theorem State.Owns.read (h : s.Owns none) (bs : Option (List Byte)) : (s.read bs).Owns none := by
  cases bs
  · exact h.refuseWrite _
  · exact h.finishWrite _ _

/-! ### Rows of the links -/

theorem State.Owns.rejectFrame (h : s.Owns none) (c : Client) : (s.rejectFrame c).Owns none :=
  { h.onLink c (fun l => { l with errors := min Config.linkErrorMax (l.errors + 1), reply := .frameReply })
      (.inr fun _ => id) with }

theorem execReplyCapture_owns (h : s.Owns none) (he : execReplyCapture c s = .next t) : t.Owns none := by
  refine h.whenRunning he ?_
  split
  · have captured := h.onLink c (fun l => { l with
      receive := .inFrame (after s.clock Config.selectLimit) (s.captureReply c) l.announce false }) (.inr fun _ => id)
    dsimp only
    split
    · exact { captured with }
    · exact captured
  · exact h

theorem execPause_owns (h : s.Owns none) (he : execPause c s = .next t) : t.Owns none := by
  refine h.whenRunning he ?_
  split
  · exact h.onLink c _ (.inr fun _ => id)
  · exact h

theorem execAbortedFrameEnd_owns (h : s.Owns none) (he : execAbortedFrameEnd c s = .next t) : t.Owns none := by
  refine h.whenRunning he ?_
  split
  · exact h.onLink c _ (.inr fun _ => id)
  · exact h

theorem execSelRiseAfterReset_owns (h : s.Owns none) (he : execSelRiseAfterReset c s = .next t) : t.Owns none := by
  refine h.whenRunning he ?_
  split
  · exact h.onLink c _ (.inr fun _ => id)
  · exact h

theorem execFrameRejected_owns (z : FrameFault) (h : s.Owns none) (he : execFrameRejected c z s = .next t) :
    t.Owns none := by
  refine h.whenRunning he ?_
  split
  · refine State.Owns.rejectFrame ?_ c
    exact h.onLink c _ (.inr fun _ => id)
  · exact h

theorem execSelectTimeout_owns (h : s.Owns none) (he : execSelectTimeout c s = .next t) : t.Owns none := by
  refine h.whenRunning he ?_
  split
  · refine State.Owns.rejectFrame ?_ c
    exact h.onLink c _ (.inr fun _ => id)
  · exact h

theorem execAttach_owns (v : Value) (h : s.Owns none) (he : execAttach c v s = .next t) : t.Owns none := by
  refine h.whenRunning he ?_
  split
  · have torn := (h.onLink c Link.consume (.inr fun _ => id)).teardownIfAttached c
    exact (torn.onSup c _ fun _ => .inr (.inl rfl)).onLink c _ (.inr fun _ => id)
  · exact h

theorem execDetach_owns (v : Value) (h : s.Owns none) (he : execDetach c v s = .next t) : t.Owns none :=
  h.whenRunning he (h.takeFrame c fun _ hu => (hu.teardownIfAttached c).answer c _ _)

theorem mem_insertFlow (x y : Flow) (fs : List Flow) : y ∈ insertFlow x fs ↔ y = x ∨ y ∈ fs := by
  induction fs with
  | nil => simp [insertFlow]
  | cons f fs ih =>
    unfold insertFlow
    split
    · simp
    · simp [ih, or_left_comm]

theorem execOpenFlow_owns {v : Value} (h : s.Owns none) (he : execOpenFlow c v s = .next t) : t.Owns none := by
  refine h.admittedFrame he fun u hu hc => ?_
  unfold State.openFlow
  split
  · exact hu.refuse c _
  · split
    · exact hu.refuse c _
    · split
      · exact hu.refuse c _
      · split
        · exact hu.refuse c _
        · split
          · exact hu.refuse c _
          · rename_i k _ _ _ slot _
            refine State.Owns.answer (hu.setFlows fun f hf => ?_) c _ _
            rcases (mem_insertFlow _ f _).mp hf with rfl | hf
            · exact State.attached_of_admitted hc
            · exact hu.flows f hf

theorem State.Owns.closeFlow (h : s.Owns none) (f : Flow) : (s.closeFlow f).Owns none := by
  have unbound : State.Owns none { s with
      live := if (s.live.get f.owner).binding = some f.slot then s.live.set f.owner (s.live.get f.owner).unbound
        else s.live } := by
    split
    · exact h.onLive f.owner LiveClaim.unbound (.inr fun _ _ => rfl) (.inr fun _ _ => rfl)
    · exact h
  have flows := unbound.setFlows (fs := s.flows.filter fun x => x.slot != f.slot) fun g hg =>
    h.flows g (List.mem_of_mem_filter hg)
  have gone := flows.setPlan (es := s.plan.filter fun e => e.flow != f.slot) (h.numbers.filter _)
    (fun e he => h.entries e (List.mem_of_mem_filter he)) fun e he => h.awake e (List.mem_of_mem_filter he)
  unfold State.closeFlow
  dsimp only
  split
  · exact gone.claimsLeft _ _
  · exact gone

theorem execCloseFlow_owns {v : Value} (h : s.Owns none) (he : execCloseFlow c v s = .next t) : t.Owns none := by
  refine h.admittedFrame he fun u hu _ => ?_
  split
  · exact hu.refuse c _
  · split
    · exact hu.refuse c _
    · exact (hu.closeFlow _).answer c _ _

theorem execReclass_owns {v : Value} (h : s.Owns none) (he : execReclass c v s = .next t) : t.Owns none := by
  refine h.admittedFrame he fun u hu _ => ?_
  split
  · exact hu.refuse c _
  · rename_i f hf
    split
    · exact hu.refuse c _
    · split
      · exact hu.refuse c _
      · refine State.Owns.answer (hu.reclassed (State.flowNamed_some hf).1 ?_) c _ _
        rfl

theorem execBindLive_owns {v : Value} (h : s.Owns none) (he : execBindLive c v s = .next t) : t.Owns none := by
  refine h.admittedFrame he fun u hu hc => ?_
  have bound (b : Option Nat) : (u.onLive c fun l => { l with binding := b }).Owns none :=
    hu.onLive c _ (.inl (State.attached_of_admitted hc)) (.inl hc)
  split
  · split
    · exact (bound none).answer c _ _
    · exact hu.refuse c _
  · split
    · exact hu.refuse c _
    · split
      · exact (bound _).answer c _ _
      · exact hu.refuse c _

theorem execPost_owns {v : Value} (h : s.Owns none) (he : execPost c v s = .next t) : t.Owns none := by
  refine h.admittedFrame he fun u hu hc => ?_
  split
  · exact hu.refuse c _
  · split
    · exact hu.refuse c _
    · exact hu.postDraft hc _ _

theorem execRetime_owns {v : Value} (h : s.Owns none) (he : execRetime c v s = .next t) : t.Owns none := by
  refine h.admittedFrame he fun u hu _ => ?_
  split
  · exact hu.refuse c _
  · split
    · exact hu.refuse c _
    · exact (hu.retimeEntry _ _).answer c _ _

theorem execCancel_owns {v : Value} (h : s.Owns none) (he : execCancel c v s = .next t) : t.Owns none := by
  refine h.admittedFrame he fun u hu _ => ?_
  split
  · exact hu.refuse c _
  · split
    · exact hu.refuse c _
    · exact (hu.removeEntry _ _).answer c _ _

theorem execChannelNote_owns {v : Value} (h : s.Owns none) (he : execChannelNote c v s = .next t) : t.Owns none := by
  refine h.admittedFrame he fun u hu _ => ?_
  split
  · exact hu.refuse c _
  · split
    · exact hu.refuse c _
    · exact (hu.recompute _).answer c _ _

theorem execClearNotes_owns {v : Value} (h : s.Owns none) (he : execClearNotes c v s = .next t) : t.Owns none := by
  refine h.whenRunning he (h.takeFrame c fun u hu => State.Owns.answer (hu.onLink c _ (.inr fun l hl => ?_)) c _ _)
  obtain ⟨draft, notices⟩ := hl
  exact ⟨draft, by simp [notices, clearFlags]⟩

theorem execParameterFrame_owns {k : BitVec 5} {v : Value} (h : s.Owns none)
    (he : execParameterFrame c k v s = .next t) : t.Owns none := by
  refine h.admittedFrame he fun u hu hc => ?_
  split
  · exact hu.refuse c _
  · exact (hu.onLink c _ (.inl (State.attached_of_admitted hc))).answer c _ _

theorem execFetch_owns {item : Nat} {arg : BitVec 16} (h : s.Owns none)
    (he : (s.whenRunning fun s => s.takeFrame c fun s => s.leaveFetch c item arg) = .next t) : t.Owns none :=
  h.whenRunning he (h.takeFrame c fun _ hu => hu.onLink c _ (.inr fun _ => id))

/-! ### Rows of the request lines and of the air clock -/

theorem execReqRise_owns (h : s.Owns none) (he : execReqRise c s = .next t) : t.Owns none := by
  refine h.whenRunning he ?_
  split
  · exact h
  · split
    · rename_i makes
      simp only [State.riseMakesClaim, Bool.and_eq_true] at makes
      refine State.Owns.claimArrived ?_ c
      exact h.onLive c _ (.inr fun _ => id) (.inl makes.1.1)
    · exact h.onLive c _ (.inr fun _ => id) (.inr fun _ => id)

theorem execReqFall_owns (h : s.Owns none) (he : execReqFall c s = .next t) : t.Owns none := by
  have released := h.onLive c (fun l => { l.toIdle with reqLevel := false }) (.inr fun _ => id) (.inr fun _ _ => rfl)
  refine h.whenRunning he ?_
  split
  · exact h
  · dsimp only
    split
    · exact released.claimsLeft _ _
    · exact released

theorem execPrioEdge_owns {z : Bool} (h : s.Owns none) (he : execPrioEdge c z s = .next t) : t.Owns none :=
  h.whenRunning he (h.onLive c _ (.inr fun _ => id) (.inr fun _ => id))

theorem execStartReached_owns {n : Fin 32} (h : s.Owns none) (he : execStartReached n s = .next t) : t.Owns none :=
  h.whenRunning he (h.wake n.val)

theorem execAgingExpiry_owns (h : s.Owns none) (he : execAgingExpiry c s = .next t) : t.Owns none := by
  refine h.whenRunning he ?_
  split
  · refine State.Owns.stateCheckIf ((h.onBoundFlow c Flow.aged fun _ => rfl).onLive c _ (.inr fun l hl => ?_)
      (.inr fun l hl => ?_)) _
    · exact (l.nextAging_keeps _).2.2.trans hl
    · simp [LiveClaim.nextAging, hl]
  · exact h

theorem execHoldExpiry_owns (h : s.Owns none) (he : execHoldExpiry c s = .next t) : t.Owns none := by
  refine h.whenRunning he ?_
  split
  · rename_i due
    refine h.expireHold fun idle => ?_
    simp [State.holdDue, idle] at due
  · exact h

theorem execPresenceExpiry_owns (h : s.Owns none) (he : execPresenceExpiry c s = .next t) : t.Owns none := by
  refine h.whenRunning he ?_
  split
  · exact h.silence c
  · exact h

theorem execMiss_owns {n : Fin 32} (h : s.Owns none) (he : execMiss n s = .next t) : t.Owns none := by
  refine h.whenRunning he ?_
  split
  · exact h
  · rename_i e hn
    split
    · rename_i due
      simp only [Entry.missDue, Bool.and_eq_true] at due
      exact h.missOccurrence hn due.1
    · exact h

theorem Entry.isHolding_of_endDue {e : Entry} {now : AirTime} (h : e.endDue now = true) : e.isHolding = true := by
  unfold Entry.endDue at h
  unfold Entry.isHolding
  cases hs : e.status <;> rw [hs] at h <;> first | rfl | cases h

theorem execOccurrenceEnd_owns {n : Fin 32} (h : s.Owns none) (he : execOccurrenceEnd n s = .next t) :
    t.Owns none := by
  refine h.whenRunning he ?_
  split
  · exact h
  · rename_i e hn
    split
    · rename_i due; exact h.serveOccurrence hn (Entry.isHolding_of_endDue due)
    · exact h

/-- The steps of a suspended entry keep it suspended (R79). -/
theorem State.Owns.onEntry_suspended (h : s.Owns none) (n : Nat) (f : Entry → Entry)
    (hf : ∀ e, (f e).number = e.number ∧ (f e).owner = e.owner ∧ ((f e).isSuspended = false → e.isSuspended = false)) :
    (s.onEntry n fun e => some (f e)).Owns none := by
  refine h.onEntry n _ (fun e y hy => ?_) fun e _ _ y hy ha => .inl ?_ <;> cases hy
  · exact ⟨(hf e).1, (hf e).2.1⟩
  · exact (hf e).2.2 ha

theorem execSuspendedStep_owns {n : Fin 32} (h : s.Owns none) (he : execSuspendedStep n s = .next t) : t.Owns none := by
  refine h.whenRunning he (h.onEntry_suspended n.val
    (fun e => if e.stepDue s.clock then { e with start := after e.start e.period } else e) fun e => ?_)
  split <;> exact ⟨rfl, rfl, id⟩

theorem execOneshotExpired_owns {n : Fin 32} (h : s.Owns none) (he : execOneshotExpired n s = .next t) :
    t.Owns none := by
  refine h.whenRunning he (h.onEntry_suspended n.val
    (fun e => if e.expiryDue s.clock then { e with status := .suspended true } else e) fun e => ?_)
  split
  · exact ⟨rfl, rfl, nofun⟩
  · exact ⟨rfl, rfl, id⟩

theorem execGuardEndSettling_owns (h : s.Owns none) (he : execGuardEndSettling s = .next t) : t.Owns none := by
  refine h.whenRunning he ?_
  split
  · rename_i c g hm
    split
    · exact h.grant ((h.air c (.inr (by rw [hm]; rfl))).resolve_right nofun)
    · exact h
  · exact h

theorem execGuardEndParking_owns (h : s.Owns none) (he : execGuardEndParking s = .next t) : t.Owns none := by
  refine h.whenRunning he ?_
  split
  · split
    · exact h.setFree
    · exact h
  · exact h

theorem execRollover_owns (h : s.Owns none) (he : execRollover s = .next t) : t.Owns none := by
  refine h.whenRunning he ?_
  split
  · have rolled : s.rolledOver.Owns none := by
      rw [State.rolledOver_eq]
      exact { h with }
    exact rolled.stateCheckIf _
  · exact h

theorem execPenaltyCrossing_owns (h : s.Owns none) (he : execPenaltyCrossing s = .next t) : t.Owns none := by
  refine h.whenRunning he ?_
  split
  · rename_i c hm
    split
    · have raised : State.Owns none { s with acct := { s.acct with
          penalty := s.acct.penalty.set c (s.penaltyNow c) } } := { h with }
      exact raised.stateCheck
    · exact h
  · exact h

/-! ### Rows of the platform port -/

theorem execSetClass_owns {k b a f : Byte} {l : BitVec 16} (h : s.Owns none)
    (he : execSetClass k b a f l s = .next t) : t.Owns none := by
  refine h.whenRunning he ?_
  split
  · exact h.refuseWrite _
  · rename_i k _
    have written : State.Owns none { s with policy := { s.policy with
        classes := s.policy.classes.setRow k (classRowOf b a f l) } } := { h with }
    exact ((written.refreshHolds k).stateCheck).finishWrite _ _

theorem State.Owns.clientWritten (h : s.Owns none) (c : Client) (share cap presence rank : Nat) :
    (s.clientWritten c share cap presence rank).Owns none := by
  unfold State.clientWritten
  split
  · refine ((h.giveNotice c .policy).onSup c (fun v => { v with deadline := s.writtenDeadline c presence })
      fun _ => .inl rfl).congr ?_ rfl rfl rfl rfl rfl
    rw [State.onSup_sup, State.giveNotice_sup]
  · exact { h.onSup c (fun v => { v with deadline := s.writtenDeadline c presence }) fun _ => .inl rfl with }

theorem execSetClient_owns {b share : Byte} {cap : BitVec 16} {p rank : Byte} (h : s.Owns none)
    (he : execSetClient b share cap p rank s = .next t) : t.Owns none := by
  refine h.whenRunning he ?_
  split
  · exact h.refuseWrite _
  · rename_i c _
    rw [State.setClient_eq]
    exact ((h.clientWritten c _ _ _ _).stateCheck).finishWrite _ _

theorem execSetWindow_owns {n r : Byte} (h : s.Owns none) (he : execSetWindow n r s = .next t) : t.Owns none := by
  have restarted : (s.restartWindow (saturate 3 255 n.toNat) (saturate 1 16 r.toNat)).Owns none := by
    rw [State.restartWindow_eq]
    exact { h with }
  exact h.whenRunning he (restarted.stateCheck.finishWrite _ _)

theorem State.Owns.defaultMoved (h : s.Owns none) (old : Client) : (s.defaultMoved old).Owns none := by
  unfold State.defaultMoved
  split
  · exact h
  · split
    · exact h.moveToDefault.passZeroGuard s
    · exact h.moveToDefault.passZeroGuard s
    · exact h

theorem execSetArbiter_owns {g m a p z : Byte} (h : s.Owns none) (he : execSetArbiter g m a p z s = .next t) :
    t.Owns none := by
  refine h.whenRunning he (State.Owns.finishWrite ?_ _ _)
  unfold State.setArbiter
  dsimp only
  have written : State.Owns none { s with policy := { s.policy with
      guardTime := saturate 0 63 g.toNat, margin := saturate 1 63 m.toNat
      agingInterval := saturate 1 50 a.toNat * Config.agingUnit, defaultPos := positionOf p
      channelGuard := saturate 0 15 z.toNat } } := { h with }
  have moved := written.defaultMoved s.policy.defaultPos
  split
  · exact moved.stateCheck
  · exact (moved.recompute _).stateCheck

theorem execFreezePlan_owns {b z : Byte} (h : s.Owns none) (he : execFreezePlan b z s = .next t) : t.Owns none := by
  refine h.whenRunning he ?_
  split
  · exact h.refuseWrite _
  · rename_i c _
    have frozen := h.onSup c (fun v => { v with frozen := freezeOn z }) fun _ => .inl rfl
    exact (frozen.giveNoticeIf _ c _).finishWrite _ _

theorem execPinFlow_owns {k z : Byte} (h : s.Owns none) (he : execPinFlow k z s = .next t) : t.Owns none := by
  refine h.whenRunning he ?_
  split
  · exact h.refuseWrite _
  · rename_i f hf; exact (h.setPin (State.flowAt_some hf).1 _).finishWrite _ _

theorem execUnpinFlow_owns {k : Byte} (h : s.Owns none) (he : execUnpinFlow k s = .next t) : t.Owns none := by
  refine h.whenRunning he ?_
  split
  · exact h.refuseWrite _
  · rename_i f hf; exact (h.setPin (State.flowAt_some hf).1 _).finishWrite _ _

theorem execDropEntry_owns {n : Byte} (h : s.Owns none) (he : execDropEntry n s = .next t) : t.Owns none := by
  refine h.whenRunning he ?_
  split
  · exact h.refuseWrite _
  · exact (h.removeEntry _ _).finishWrite _ _

theorem execEvict_owns {b : Byte} (h : s.Owns none) (he : execEvict b s = .next t) : t.Owns none := by
  refine h.whenRunning he ?_
  split
  · exact h.refuseWrite _
  · exact (h.teardownIfAttached _).finishWrite _ _

theorem execRevive_owns {b : Byte} (h : s.Owns none) (he : execRevive b s = .next t) : t.Owns none := by
  refine h.whenRunning he ?_
  split
  · exact h.refuseWrite _
  · split
    · exact (h.reviveClient _).finishWrite _ _
    · exact h.refuseWrite _

theorem execStartSurvey_owns {k : Byte} (h : s.Owns none) (he : execStartSurvey k s = .next t) : t.Owns none := by
  refine h.whenRunning he ?_
  split
  · exact h.refuseWrite _
  · exact { h with }

theorem execStopSurvey_owns (h : s.Owns none) (he : execStopSurvey s = .next t) : t.Owns none := by
  refine h.whenRunning he (State.Owns.finishWrite ?_ _ _)
  split
  · exact { h with }
  · exact h

/-- The tables empty and every client's link and claim cleared, with the air nobody's, nothing is owned. -/
theorem State.Owns.of_empty (flows : t.flows = []) (plan : t.plan = []) (live : ∀ c, (t.live.get c).state = .idle)
    (binding : ∀ c, (t.live.get c).binding = none) (links : ∀ c, (t.links.get c).quiet)
    (holder : t.arb.mode.holder = none) (next : t.arb.mode.next = none) : t.Owns none where
  numbers := by rw [plan]; exact .nil
  flows f hf := by rw [flows] at hf; cases hf
  entries e he := by rw [plan] at he; cases he
  awake e he := by rw [plan] at he; cases he
  bound c hc := absurd (binding c) hc
  claims c hc := absurd (live c) hc
  quiet c _ := links c
  air c hc := by
    rw [holder, next] at hc
    exact absurd hc (by simp)

theorem State.restartArbiter_nobody (s : State) :
    s.restartArbiter.mode.holder = none ∧ s.restartArbiter.mode.next = none := by
  unfold State.restartArbiter
  split
  · split <;> exact ⟨rfl, rfl⟩
  · split <;> exact ⟨rfl, rfl⟩

theorem State.restartAll_owns (s : State) : s.restartAll.Owns none := by
  have client := s.restartAll_client
  obtain ⟨holder, next⟩ := s.restartArbiter_nobody
  exact .of_empty rfl rfl (fun c => by rw [(client c).2.1]) (fun c => by rw [(client c).2.1])
    (fun c => by rw [(client c).2.2]; exact ⟨rfl, rfl⟩) holder next

theorem State.powerOn_owns (pins : ResetPins) (k : Nat) (q : List Instr) : (State.powerOn pins k q).Owns none :=
  .of_empty rfl rfl (fun c => (State.powerOn_live pins k q c).1) (fun c => (State.powerOn_live pins k q c).2)
    (fun c => by cases c <;> exact ⟨rfl, rfl⟩) rfl rfl

theorem State.resetHeld_owns (s : State) : s.resetHeld.Owns none :=
  .of_empty rfl rfl (fun c => by cases c <;> rfl) (fun c => by cases c <;> rfl)
    (fun c => by cases c <;> exact ⟨rfl, rfl⟩) rfl rfl

theorem execRestart_owns (h : s.Owns none) (he : execRestart s = .next t) : t.Owns none :=
  h.whenRunning he (s.restartAll_owns.finishWrite _ _)

theorem execSetAttnMask_owns {m : BitVec 16} (h : s.Owns none) (he : execSetAttnMask m s = .next t) : t.Owns none :=
  h.whenRunning he { h with }

theorem execClearNotices_owns {m : BitVec 16} (h : s.Owns none) (he : execClearNotices m s = .next t) : t.Owns none :=
  h.whenRunning he { h with }

/-- A READ command writes the port alone. -/
theorem State.Owns.readRow (h : s.Owns none) (readout : State → Option (List Byte))
    (he : (s.whenRunning fun s => s.read (readout s)) = .next t) : t.Owns none := h.whenRunning he (h.read _)

/-- Every row keeps what the client states promise. -/
theorem exec_owns (i : Instr) (h : s.Owns none) (he : exec i s = .next t) : t.Owns none := by
  cases i with
  | resetEnd p => cases he; exact State.powerOn_owns p _ _
  | resetnLow => cases he; exact s.resetHeld_owns
  | replyCapture c => exact execReplyCapture_owns h he
  | pause c => exact execPause_owns h he
  | frameRejected c z => exact execFrameRejected_owns z h he
  | selectTimeout c => exact execSelectTimeout_owns h he
  | present c v => exact h.admittedFrame he fun u hu _ => hu.answer c _ _
  | attach c v => exact execAttach_owns v h he
  | detach c v => exact execDetach_owns v h he
  | openFlow c v => exact execOpenFlow_owns h he
  | closeFlow c v => exact execCloseFlow_owns h he
  | reclass c v => exact execReclass_owns h he
  | bindLive c v => exact execBindLive_owns h he
  | post c v => exact execPost_owns h he
  | retime c v => exact execRetime_owns h he
  | cancel c v => exact execCancel_owns h he
  | channelNote c v => exact execChannelNote_owns h he
  | fetchTime c a => exact execFetch_owns h he
  | fetchStatus c a => exact execFetch_owns h he
  | fetchNotes c a => exact execFetch_owns h he
  | fetchAccount c a => exact execFetch_owns h he
  | fetchLast c a => exact execFetch_owns h he
  | fetchMask c p a => exact execFetch_owns h he
  | fetchFlow c a => exact execFetch_owns h he
  | fetchFlowcount c a => exact execFetch_owns h he
  | fetchEntry c a => exact execFetch_owns h he
  | fetchItemAbove11 c z a => exact execFetch_owns h he
  | clearNotes c v => exact execClearNotes_owns h he
  | parameterFrame c k v => exact execParameterFrame_owns h he
  | reservedFrame c k z v => exact h.whenRunning he (h.takeFrame c fun u hu => hu.refuse c _)
  | reqRise c => exact execReqRise_owns h he
  | reqFall c => exact execReqFall_owns h he
  | prioEdge c z => exact execPrioEdge_owns h he
  | agingExpiry c => exact execAgingExpiry_owns h he
  | holdExpiry c => exact execHoldExpiry_owns h he
  | presenceExpiry c => exact execPresenceExpiry_owns h he
  | startReached n => exact execStartReached_owns h he
  | miss n => exact execMiss_owns h he
  | occurrenceEnd n => exact execOccurrenceEnd_owns h he
  | suspendedStep n => exact execSuspendedStep_owns h he
  | oneshotExpired n => exact execOneshotExpired_owns h he
  | guardEndSettling => exact execGuardEndSettling_owns h he
  | guardEndParking => exact execGuardEndParking_owns h he
  | rollover => exact execRollover_owns h he
  | penaltyCrossing => exact execPenaltyCrossing_owns h he
  | setClass k b a f l => exact execSetClass_owns h he
  | setClient b z cap p rank => exact execSetClient_owns h he
  | setWindow n r => exact execSetWindow_owns h he
  | setArbiter g m a p z => exact execSetArbiter_owns h he
  | freezePlan b z => exact execFreezePlan_owns h he
  | pinFlow k z => exact execPinFlow_owns h he
  | unpinFlow k => exact execUnpinFlow_owns h he
  | dropEntry n => exact execDropEntry_owns h he
  | evict b => exact execEvict_owns h he
  | revive b => exact execRevive_owns h he
  | startSurvey k => exact execStartSurvey_owns h he
  | stopSurvey => exact execStopSurvey_owns h he
  | restart => exact execRestart_owns h he
  | setAttnMask m => exact execSetAttnMask_owns h he
  | clearNotices m => exact execClearNotices_owns h he
  | readNotices => exact h.readRow (fun s => some s.noticesReadout) he
  | readClient b => exact h.readRow (fun s => (clientOfIndex b.toNat).map s.clientReadout) he
  | readAccount b => exact h.readRow (fun s => (clientOfIndex b.toNat).map s.accountReadout) he
  | readFlow k => exact h.readRow (fun s => (s.flowAt k.toNat).map s.flowReadout) he
  | readEntry n => exact h.readRow (fun s => (s.entryAt n.toNat).map entryReadout) he
  | readPlanOrder => exact h.readRow (fun s => some s.orderReadout) he
  | readAir => exact h.readRow (fun s => some s.airReadout) he
  | readChannel => exact h.readRow (fun s => some s.channelReadout) he
  | readSurvey => exact h.readRow (fun s => some s.surveyReadout) he
  | discardedWrite z => exact h.whenRunning (f := fun s => s.refuseWrite (discardResult z)) he (h.refuseWrite _)
  | emptyWrite => exact h.whenRunning (f := fun s => s) he h
  | abortedFrameEnd c => exact execAbortedFrameEnd_owns h he
  | selRiseAfterReset c => exact execSelRiseAfterReset_owns h he

end Steps

/-- Settles O57: the two invariants are the promise `State.Owns none`, which every row and the tick keep. -/
theorem everyStepKeepsWhatClientsOwn : Obligations.EveryStepKeepsWhatClientsOwn := by
  intro s t plan detached air h
  have distinct : numbersDiffer s.plan := plan.1.imp Nat.ne_of_lt
  have owns : s.Owns none := s.owns_iff.mpr ⟨distinct, detached, air⟩
  refine (t.owns_iff.mp ?_).2
  rcases step_cases h with ⟨i, q, k, hi⟩ | ⟨_, rfl⟩ | rfl
  · exact exec_owns (s := { s with pending := q, freeIndex := k }) i { owns with } hi
  · exact { owns with }
  · exact owns

end Sys2Proof.Machine
end

section
namespace Sys2Proof.Machine

/-! ## PRESENT, and the client of a row that is DETACHED or SILENT -/

/-- Settles O12. -/
theorem presentAndTheStateTest : Obligations.PresentAndTheStateTest := by
  refine ⟨fun s c v h => ?_, fun s c v k i h absent hi => ?_⟩
  · exact (s.takeFrame_admits c _ h).trans (congrArg _ (s.frameTaken_answer c .ok 0))
  · rcases hi with rfl | rfl | rfl | rfl | rfl | rfl | rfl | rfl | rfl | rfl <;>
      exact s.takeFrame_not_admitted c _ h absent

theorem State.teardownIfAttached_detached {s : State} {c : Client} (h : (s.sup.get c).state = .detached) :
    s.teardownIfAttached c = s := if_pos h

theorem State.teardownIfAttached_attached {s : State} {c : Client} (h : (s.sup.get c).state ≠ .detached) :
    s.teardownIfAttached c = s.teardown c := if_neg h

/-- What ATTACH makes of the client's state once it is torn down (R25, R26, R148). -/
def State.attachedAnew (s : State) (c : Client) : State :=
  { s with
    sup := s.sup.set c
      { s.sup.get c with
        state := .opening
        deadline := if (s.policy.clients.get c).presence = 0 then none else some (s.clock + 500000) }
    links := s.links.set c { s.links.get c with reply := .empty, announce := true } }

theorem exec_attach {s : State} {c : Client} (v : Value) (h : s.takes c) :
    exec (.attach c v) s = .next (((s.onLink c Link.consume).teardownIfAttached c).attachedAnew c) := by
  obtain ⟨high, ends⟩ := h
  simp only [exec, execAttach, s.whenRunning_high _ high, ends, if_true]
  rfl

theorem exec_detach {s : State} {c : Client} (v : Value) (h : s.takes c) :
    exec (.detach c v) s = .next (((s.frameTaken c).teardownIfAttached c).answer c .ok 0) := s.takeFrame_takes c _ h

theorem exec_evict {s : State} {c : Client} {b : Byte} (h : s.resetn = true) (hb : clientOfIndex b.toNat = some c) :
    exec (.evict b) s = .next ((s.teardownIfAttached c).finishWrite .ok []) := by
  simp only [exec, execEvict, s.whenRunning_high _ h, hb]

/-- A passing frame leaves a DETACHED client's record as it was. -/
theorem State.frameTaken_sup_of_absent {s : State} {c : Client} (h : s.admitted c = false) :
    (s.frameTaken c).sup = s.sup := by simp [State.frameTaken, State.supAfterFrame, h]

theorem State.not_admitted_of_detached {s : State} {c : Client} (h : (s.sup.get c).state = .detached) :
    s.admitted c = false := by simp [State.admitted, h]

/-- Settles O13. -/
theorem detachedClientAttaches : Obligations.DetachedClientAttaches := by
  refine ⟨fun s c v h detached => ?_, fun s c v h detached => ?_, fun s c b h hb detached => ?_⟩
  · rw [exec_attach v h, State.teardownIfAttached_detached (s := s.onLink c Link.consume) detached]
    simp only [State.attachedAnew, State.onLink, PerClient.get_set_same, PerClient.set_set]
    rfl
  · have kept := State.frameTaken_sup_of_absent (State.not_admitted_of_detached detached)
    rw [exec_detach v h, State.teardownIfAttached_detached (by rw [kept]; exact detached), State.frameTaken_answer]
  · rw [exec_evict h hb, State.teardownIfAttached_detached detached, State.finishWrite_eq]

end Sys2Proof.Machine
end

section
namespace Sys2Proof.Machine

/-! ## CHANNEL NOTE -/

/-- A notice given where a condition holds: its flag is set unless the client is DETACHED (R40). -/
theorem State.giveNoticeIf_links (s : State) (p : Bool) (c : Client) (n : Notice) :
    (s.giveNoticeIf p c n).links =
      if p = true ∧ (s.sup.get c).state ≠ .detached then
        s.links.set c { s.links.get c with notices := (s.links.get c).notices ||| noticeBit n }
      else s.links := by
  unfold State.giveNoticeIf State.giveNotice
  cases p
  · simp
  · by_cases h : (s.sup.get c).state = .detached
    · simp [h]
    · simp [h, State.onLink]

/-- MASK goes to SR and to AR exactly where its mask changed and it is not DETACHED (R135). -/
theorem State.recompute_links (s : State) (note : Option ChannelNote) :
    (s.recompute note).links =
      { nr := s.links.nr
        sr :=
          if (computeChannel note s.policy.channelGuard).srAvoided ≠ s.channel.srAvoided ∧
              s.sup.sr.state ≠ .detached then
            { s.links.sr with notices := s.links.sr.notices ||| 0x01 }
          else s.links.sr
        ar :=
          if (computeChannel note s.policy.channelGuard).arAvoided ≠ s.channel.arAvoided ∧
              s.sup.ar.state ≠ .detached then
            { s.links.ar with notices := s.links.ar.notices ||| 0x01 }
          else s.links.ar } := by
  unfold State.recompute
  dsimp only
  rw [State.giveNoticeIf_eq _ _ .sr, State.giveNoticeIf_links, State.giveNoticeIf_links]
  simp only [bne_iff_ne, PerClient.get]
  split <;> split <;> rfl

/-- CHANNEL NOTE from NR, for a note that names something (R39, R129). -/
theorem exec_channelNote {s : State} {v : Value} {note : Option ChannelNote} (h : s.admits .nr)
    (hn : noteOf (noteOffset v) (noteWidth v) = some note) :
    exec (.channelNote .nr v) s = .next (((s.frameTaken .nr).recompute note).answer .nr .ok
      (usableData (computeChannel note s.policy.channelGuard))) := by
  refine (s.takeFrame_admits .nr _ h).trans ?_
  rw [if_neg (by simp), hn]
  dsimp only
  rw [congrArg State.channel ((s.frameTaken .nr).recompute_frame note)]
  rfl

/-- CHANNEL NOTE from NR, as one update of the state (R129, R134, R135, R146). -/
theorem exec_channelNote_eq {s : State} {v : Value} {note : Option ChannelNote} {u : ChannelUnit} (h : s.admits .nr)
    (hn : noteOf (noteOffset v) (noteWidth v) = some note) (hu : u = computeChannel note s.policy.channelGuard) :
    exec (.channelNote .nr v) s = .next { s with
      sup := s.supAfterFrame .nr
      channel := u
      links :=
        { nr := { s.links.nr with
            receive := .ready, announce := s.links.nr.flagAfterFrame
            reply := .answer .ok
              (BitVec.ofNat 24 ((79 - u.srAvoided.length) + 256 * (16 - u.arAvoided.length))) }
          sr :=
            if u.srAvoided ≠ s.channel.srAvoided ∧
              s.sup.sr.state ≠ .detached then
              { s.links.sr with notices := s.links.sr.notices ||| 0x01 }
            else s.links.sr
          ar :=
            if u.arAvoided ≠ s.channel.arAvoided ∧
              s.sup.ar.state ≠ .detached then
              { s.links.ar with notices := s.links.ar.notices ||| 0x01 }
            else s.links.ar } } := by
  have sup : (s.frameTaken .nr).sup.sr = s.sup.sr ∧ (s.frameTaken .nr).sup.ar = s.sup.ar := by
    unfold State.frameTaken State.supAfterFrame
    split <;> exact ⟨rfl, rfl⟩
  have links := (s.frameTaken .nr).recompute_links note
  rw [sup.1, sup.2] at links
  rw [exec_channelNote h hn, State.recompute_frame, links, hu]
  rfl

theorem noteOf_none {n : Nat} (w : Width) (h : 1 ≤ n ∧ n ≤ 11 ∨ 85 ≤ n) : noteOf n w = none := by
  unfold noteOf
  rw [if_neg (by omega), if_neg (by omega)]

theorem noteOf_band {n : Nat} (w : Width) (lo : 12 ≤ n) (hi : n ≤ 84) : noteOf n w = some (some ⟨2400 + n, w⟩) := by
  unfold noteOf
  rw [if_neg (by omega), if_pos ⟨lo, hi⟩]

/-- Settles O30. -/
theorem channelNoteRecomputesTheMasks : Obligations.ChannelNoteRecomputesTheMasks := by
  refine ⟨fun s v u h hu => ?_, fun s v h out => ?_, fun s c v h hc => ?_⟩
  · rcases hu with ⟨zero, hu⟩ | ⟨lo, hi, hu⟩
    · have cleared : noteOf (noteOffset v) (noteWidth v) = some none := by simp [noteOf, noteOffset, zero]
      exact exec_channelNote_eq h cleared hu
    · exact exec_channelNote_eq h (noteOf_band _ lo hi) hu
  · refine (s.takeFrame_admits .nr _ h).trans ?_
    rw [if_neg (by simp), show noteOf (noteOffset v) (noteWidth v) = none from noteOf_none _ out]
    exact congrArg _ (s.frameTaken_refuse .nr .range)
  · refine (s.takeFrame_admits c _ h).trans ?_
    rw [if_pos hc, State.frameTaken_refuse]

end Sys2Proof.Machine
end

section
namespace Sys2Proof.Machine

/-! ## RETIME, and what CANCEL refuses -/

theorem onNumber_some (n : Nat) (g : Entry → Entry) (es : List Entry) :
    onNumber n (fun e => some (g e)) es = es.map fun e => if e.number = n then g e else e := by
  unfold onNumber
  rw [← List.filterMap_eq_map']
  refine List.filterMap_congr fun e _ => ?_
  split <;> rfl

/-- The entry of a number, changed in place, is found under its number still. -/
theorem State.entryAt_onEntry (s : State) (n : Nat) (g : Entry → Entry) (hg : ∀ e, (g e).number = e.number) :
    (s.onEntry n fun e => some (g e)).entryAt n = (s.entryAt n).map g := by
  have number : ((fun e : Entry => e.number == n) ∘ fun e => if e.number = n then g e else e) =
      fun e => e.number == n := funext fun e => by
    by_cases h : e.number = n <;> simp [h, hg]
  unfold State.entryAt
  rw [State.onEntry_plan, onNumber_some, List.find?_map, number]
  cases he : s.plan.find? (·.number == n) with
  | none => rfl
  | some e => simp [(State.entryAt_some he).2]

/-- An entry whose start has not been reached does not fall due (R68). -/
theorem State.wake_early {s : State} {n : Nat} (h : ∀ e, s.entryAt n = some e → reached s.clock e.start = false) :
    s.wake n = s := by
  rcases s.wake_cases n with e | ⟨e, he, _, due, _⟩
  · exact e
  · rw [h e he] at due; cases due

section Retime

variable {s : State} {c : Client} {v : Value}

/-- Another plan beside an answered frame. -/
theorem State.frameTaken_answer_plan (s : State) (c : Client) (r : Result) (d : Value) (es : List Entry) :
    ({ s.frameTaken c with plan := es } : State).answer c r d = { s.answered c (.answer r d) with plan := es } :=
  congrArg (fun t : State => { t with plan := es }) (s.frameTaken_answer c r d)

theorem exec_retime {e : Entry} (h : s.plans c) (he : s.entryNamed c (v.extractLsb' 16 8).toNat = some e) :
    exec (.retime c v) s = .next (((s.frameTaken c).retimeEntry e (v.extractLsb' 0 13)).answer c .ok 0) := by
  have named : (s.frameTaken c).entryNamed c (retimeEntry v) = some e := he
  refine (s.takeFrame_admits c _ h.1).trans ?_
  rw [if_neg (by simp [h.2]), named]
  rfl

/-- With the plan frozen RETIME and CANCEL answer LOCKED (R38). -/
theorem exec_retime_frozen (h : s.admits c) (hf : (s.sup.get c).frozen = true) :
    exec (.retime c v) s = .next (s.answered c (.answer .locked 0)) ∧
      exec (.cancel c v) s = .next (s.answered c (.answer .locked 0)) := by
  constructor <;> refine (s.takeFrame_admits c _ h).trans ?_ <;>
    rw [if_pos (by simp [hf]), State.frameTaken_refuse]

theorem exec_retime_unknown (h : s.plans c) (he : s.entryNamed c (v.extractLsb' 16 8).toNat = none) :
    exec (.retime c v) s = .next (s.answered c (.answer .unknown 0)) := by
  have named : (s.frameTaken c).entryNamed c (retimeEntry v) = none := he
  refine (s.takeFrame_admits c _ h.1).trans ?_
  rw [if_neg (by simp [h.2]), named]
  exact congrArg _ (s.frameTaken_refuse c .unknown)

theorem exec_cancel_unknown (h : s.plans c) (he : s.entryNamed c v.toNat = none) :
    exec (.cancel c v) s = .next (s.answered c (.answer .unknown 0)) := by
  have named : (s.frameTaken c).entryNamed c (wholeEntry v) = none := he
  refine (s.takeFrame_admits c _ h.1).trans ?_
  rw [if_neg (by simp [h.2]), named]
  exact congrArg _ (s.frameTaken_refuse c .unknown)

/-- On an entry that is on the claim board the offset is held pending (R78). -/
theorem State.retimeEntry_board {e : Entry} (he : e.status = .due ∨ ∃ g, e.status = .holding g) (o : BitVec 13) :
    s.retimeEntry e o = s.onEntry e.number fun x => some { x with pendingOffset := some o } := by
  unfold State.retimeEntry
  rcases he with he | ⟨g, he⟩ <;> rw [he]

/-- On a SCHEDULED entry the start moves at once (R77). -/
theorem State.retimeEntry_scheduled {e : Entry} (he : e.status = .scheduled) (o : BitVec 13) :
    s.retimeEntry e o = (s.onEntry e.number fun x =>
      some { x with start := clampReached s.clock (offsetBy x.start o) }).wake e.number := by
  unfold State.retimeEntry
  rw [he]

theorem clampReached_of_reached {now a : AirTime} (h : reached now a = true) : clampReached now a = now := if_pos h

theorem clampReached_of_not_reached {now a : AirTime} (h : reached now a = false) : clampReached now a = a :=
  if_neg (by simp [h])

/-- A start moved to an air time not yet reached leaves the entry SCHEDULED (R77). -/
theorem State.retimeEntry_early {e : Entry} {n : Nat} (he : s.entryNamed c n = some e) (hs : e.status = .scheduled)
    {o : BitVec 13} (hr : reached s.clock (offsetBy e.start o) = false) :
    s.retimeEntry e o =
      s.onEntry e.number fun x => some { x with start := clampReached s.clock (offsetBy x.start o) } := by
  have found : s.entryAt e.number = some e := by
    obtain ⟨found, _⟩ := State.entryNamed_some he
    rw [(State.entryAt_some found).2]
    exact found
  rw [State.retimeEntry_scheduled hs]
  refine State.wake_early fun x hx => ?_
  rw [State.entryAt_onEntry s e.number (fun x => { x with start := clampReached s.clock (offsetBy x.start o) })
    fun _ => rfl, found] at hx
  cases hx
  exact (congrArg (reached s.clock) (clampReached_of_not_reached hr)).trans hr

end Retime

/-- Settles O25. -/
theorem retimeMovesOrHoldsTheStart : Obligations.RetimeMovesOrHoldsTheStart := by
  refine ⟨fun s c v e h he board => ?_, fun s c v e h he scheduled early => ⟨?_, clampReached_of_not_reached early⟩,
    fun s c v e h he scheduled due => ⟨?_, clampReached_of_reached due⟩, fun s c v => exec_retime_frozen,
    fun s c v => exec_retime_unknown, fun s c v => exec_cancel_unknown⟩
  · rw [exec_retime h he, State.retimeEntry_board board]
    exact congrArg _ (s.frameTaken_answer_plan c .ok 0 _)
  · rw [exec_retime h he, State.retimeEntry_early (s := s.frameTaken c) (c := c) he scheduled early]
    exact congrArg _ (s.frameTaken_answer_plan c .ok 0 _)
  · rw [exec_retime h he, State.retimeEntry_scheduled scheduled]
    rfl

end Sys2Proof.Machine
end

section
namespace Sys2Proof.Machine

/-! ## What the arbiter's answers leave of flows and live claims -/

/-- What of a flow record no claim changes: its slot, owner, handle and classes (R42, R49, R50). -/
def Flow.profile (f : Flow) : Nat × Client × Nat × FlowClass × Option FlowClass :=
  (f.slot, f.owner, f.handle, f.requested, f.pinned)

theorem onSlot_map {β : Type} (g : Flow → β) (k : Nat) (f : Flow → Flow) (fs : List Flow)
    (h : ∀ x ∈ fs, x.slot = k → g (f x) = g x) : (onSlot k f fs).map g = fs.map g := by
  rw [onSlot, List.map_map]
  refine List.map_congr_left fun x hx => ?_
  by_cases hk : x.slot = k
  · simp [hk, h x hx hk]
  · simp [hk]

theorem foldl_onSlot_map {β : Type} (g : Flow → β) (f : Flow → Flow) (h : ∀ x, g (f x) = g x) (ks : List Nat)
    (fs : List Flow) : (ks.foldl (fun fs k => onSlot k f fs) fs).map g = fs.map g := by
  induction ks generalizing fs with
  | nil => rfl
  | cons k ks ih => rw [List.foldl_cons, ih, onSlot_map g k f fs fun x _ _ => h x]

/-- From `s` to `t` every flow has kept its profile. -/
def SameFlows (s t : State) : Prop := t.flows.map Flow.profile = s.flows.map Flow.profile

theorem SameFlows.mem {s t : State} (h : SameFlows s t) {f : Flow} (hf : f ∈ s.flows) :
    ∃ g ∈ t.flows, g.profile = f.profile := by
  have mem : f.profile ∈ t.flows.map Flow.profile := by rw [h]; exact List.mem_map_of_mem hf
  exact List.mem_map.mp mem

theorem SameFlows.mem_of {s t : State} (h : SameFlows s t) {f : Flow} (hf : f ∈ t.flows) :
    ∃ g ∈ s.flows, g.profile = f.profile := SameFlows.mem (Eq.symm h) hf

/-- The arbiter opens, closes and reclasses no flow. -/
theorem arbiterClosed_sameFlows : ArbiterClosed SameFlows where
  refl _ := rfl
  trans h k := Eq.trans k h
  setMode s m := by simp [SameFlows]
  setPosition _ _ := rfl
  turnHolding s c := foldl_onSlot_map Flow.profile Flow.won (fun _ => rfl) _ _
  cutHoldings s c := by
    have flows : (s.cutHoldings c).flows = (s.holdingSlots c).foldl (fun fs k => onSlot k Flow.cut fs) s.flows := by
      rw [s.cutHoldings_eq c, foldl_onSlot_cut]
      rfl
    rw [SameFlows, flows]
    exact foldl_onSlot_map Flow.profile Flow.cut (fun _ => rfl) _ _
  countPreemption _ := rfl

/-- The arbiter leaves an IDLE live claim as it is. -/
theorem arbiterClosed_idleLive :
    ArbiterClosed fun s t => ∀ c, (s.live.get c).state = .idle → t.live.get c = s.live.get c where
  refl _ := fun _ _ => rfl
  trans h k := fun c hc => (k c (by rw [h c hc]; exact hc)).trans (h c hc)
  setMode s m := by simp
  setPosition _ _ := fun _ _ => rfl
  turnHolding s c := fun d hd => by
    by_cases hdc : d = c
    · subst hdc
      exact (PerClient.get_set_same _ _ _).trans (s.grantLive_idle hd)
    · exact PerClient.get_set_other _ _ _ _ hdc
  cutHoldings s c := fun d hd => by
    rw [s.cutHoldings_eq c]
    by_cases hdc : d = c
    · subst hdc
      exact (PerClient.get_set_same _ _ _).trans (s.cutLive_idle hd)
    · exact PerClient.get_set_other _ _ _ _ hdc
  countPreemption _ := fun _ _ => rfl

/-- The arbiter makes entries of bookings that stand, and removes some on their last count. -/
theorem State.claimsLeft_bookedIn (b s : State) (c : Client) : bookedIn s.plan (b.claimsLeft s c).plan :=
  keeps_claimsLeft (W := fun _ => False) b c .bookings id

theorem State.claimsLeft_binding (b s : State) (c d : Client) :
    ((b.claimsLeft s c).live.get d).binding = (s.live.get d).binding :=
  keeps_claimsLeft (W := fun _ => False) b c (.binding d) id

/-! ## CLOSE FLOW -/

/-- The flow closed, before the arbiter's answer (R45). -/
def State.closed (s : State) (f : Flow) : State :=
  { s with
    flows := s.flows.filter fun g => g.slot != f.slot
    plan := s.plan.filter fun e => e.flow != f.slot
    live :=
      if (s.live.get f.owner).binding = some f.slot then
        s.live.set f.owner { s.live.get f.owner with state := .idle, binding := none }
      else s.live }

theorem State.closeFlow_eq (s : State) (f : Flow) :
    s.closeFlow f = if s.flowClaims f.owner f.slot then s.claimsLeft (s.closed f) f.owner else s.closed f := rfl

theorem State.closed_live (s : State) (f : Flow) :
    ((s.closed f).live.get f.owner).binding ≠ some f.slot ∧
      ((s.live.get f.owner).binding = some f.slot → ((s.closed f).live.get f.owner).state = .idle) := by
  unfold State.closed
  by_cases h : (s.live.get f.owner).binding = some f.slot <;> simp [h]

/-- What is left where a flow has been closed, the arbiter's answer included (R45). -/
theorem State.closeFlow_gone (s : State) (f : Flow) :
    (∀ g ∈ (s.closeFlow f).flows, g.slot ≠ f.slot) ∧ (∀ e ∈ (s.closeFlow f).plan, e.flow ≠ f.slot) ∧
      ((s.closeFlow f).live.get f.owner).binding ≠ some f.slot ∧
      ((s.live.get f.owner).binding = some f.slot → ((s.closeFlow f).live.get f.owner).state = .idle) := by
  have flows : ∀ g ∈ (s.closed f).flows, g.slot ≠ f.slot := fun g hg => by simpa using (List.mem_filter.mp hg).2
  have plan : ∀ e ∈ (s.closed f).plan, e.flow ≠ f.slot := fun e he => by simpa using (List.mem_filter.mp he).2
  obtain ⟨binding, idle⟩ := s.closed_live f
  rw [State.closeFlow_eq]
  split
  · refine ⟨fun g hg => ?_, fun e he => ?_, ?_, fun hb => ?_⟩
    · obtain ⟨g', hg', same⟩ := (arbiterClosed_sameFlows.claimsLeft s _ f.owner).mem_of hg
      have slot : g'.slot = g.slot := congrArg Prod.fst same
      exact slot ▸ flows g' hg'
    · obtain ⟨e', he', same⟩ := s.claimsLeft_bookedIn _ f.owner e he
      simp only [Entry.booking, Prod.mk.injEq] at same
      exact same.2.2.1 ▸ plan e' he'
    · rw [State.claimsLeft_binding]; exact binding
    · rw [arbiterClosed_idleLive.claimsLeft s _ f.owner f.owner (idle hb)]
      exact idle hb
  · exact ⟨flows, plan, binding, idle⟩

section CloseFlow

variable {s : State} {c : Client} {v : Value} {f : Flow}

theorem exec_closeFlow (h : s.admits c) (hf : s.flowNamed c v.toNat = some f)
    (hz : (s.sup.get c).frozen = false ∨ s.entriesOfFlow f.slot = 0) :
    exec (.closeFlow c v) s = .next (((s.frameTaken c).closeFlow f).answer c .ok 0) := by
  have named : (s.frameTaken c).flowNamed c (wholeHandle v) = some f := hf
  have free : ¬ (((s.frameTaken c).sup.get c).frozen = true ∧ 0 < (s.frameTaken c).entriesOfFlow f.slot) := by
    rw [State.frameTaken_frozen]
    rintro ⟨frozen, entries⟩
    rcases hz with hz | hz
    · rw [hz] at frozen; cases frozen
    · exact absurd hz (Nat.ne_of_gt entries)
  refine (s.takeFrame_admits c _ h).trans ?_
  rw [named]
  exact congrArg _ (if_neg free)

theorem exec_closeFlow_unknown (h : s.admits c) (hf : s.flowNamed c v.toNat = none) :
    exec (.closeFlow c v) s = .next (s.answered c (.answer .unknown 0)) := by
  have named : (s.frameTaken c).flowNamed c (wholeHandle v) = none := hf
  refine (s.takeFrame_admits c _ h).trans ?_
  rw [named]
  exact congrArg _ (s.frameTaken_refuse c .unknown)

theorem exec_closeFlow_locked (h : s.admits c) (hf : s.flowNamed c v.toNat = some f)
    (hz : (s.sup.get c).frozen = true) (he : 0 < s.entriesOfFlow f.slot) :
    exec (.closeFlow c v) s = .next (s.answered c (.answer .locked 0)) := by
  have named : (s.frameTaken c).flowNamed c (wholeHandle v) = some f := hf
  have frozen : ((s.frameTaken c).sup.get c).frozen = true := by rw [State.frameTaken_frozen, hz]
  refine (s.takeFrame_admits c _ h).trans ?_
  rw [named]
  exact congrArg _ ((if_pos ⟨frozen, he⟩).trans (s.frameTaken_refuse c .locked))

end CloseFlow

/-- Settles O18. -/
theorem closeFlowRemovesTheFlow : Obligations.CloseFlowRemovesTheFlow := by
  refine ⟨fun s c v f h hf hz => ?_, fun s c v f h hf hz quiet => ?_, fun s c v f h hf hz claims => ?_,
    fun s c v => exec_closeFlow_unknown, fun s c v f => exec_closeFlow_locked⟩ <;>
    obtain ⟨_, rfl, _⟩ := State.flowNamed_some hf
  · obtain ⟨flows, plan, binding, idle⟩ := (s.frameTaken f.owner).closeFlow_gone f
    refine ⟨_, exec_closeFlow h hf hz, flows, plan, binding, idle, ?_⟩
    simp [State.answer]
  · have none : (s.frameTaken f.owner).flowClaims f.owner f.slot = false := quiet
    rw [exec_closeFlow h hf hz, State.closeFlow_eq, none]
    exact congrArg (fun t : State => Host.Outcome.next { t with
      flows := s.flows.filter (fun g => g.slot != f.slot), plan := s.plan.filter (fun e => e.flow != f.slot)
      live := ((s.frameTaken f.owner).closed f).live }) (s.frameTaken_answer f.owner .ok 0)
  · have some : (s.frameTaken f.owner).flowClaims f.owner f.slot = true := claims
    rw [exec_closeFlow h hf hz, State.closeFlow_eq, some]
    rfl

end Sys2Proof.Machine
end

section
namespace Sys2Proof.Machine

/-! ## The arbiter's answer to a client with no claim left -/

/-- From `s` to `t` no notice is given and no preemption counted. -/
def Unreported (s t : State) : Prop := t.links = s.links ∧ t.acct.preemptions = s.acct.preemptions

section Gone

variable {s t : State} {c : Client}

theorem State.setMode_unreported (s : State) (m : ArbiterMode) : Unreported s (s.setMode m) :=
  ⟨s.setMode_links m, (s.setMode_window m).2.1⟩

/-- A hand-off only parks or gives the air to a waiting client: nobody is told, nothing is counted (R94). -/
theorem State.handOff_unreported (s : State) : Unreported s s.handOff := by
  rcases s.handOff_cases with ⟨_, e⟩ | ⟨d, w, _, ⟨_, _, e⟩ | ⟨g, _, _, e⟩ | ⟨_, e⟩⟩ <;> rw [e]
  · rcases s.park_cases with ⟨_, _, e⟩ | ⟨g, _, _, e⟩ | ⟨_, e⟩ <;> rw [e]
    · exact s.setMode_unreported _
    · exact s.setMode_unreported _
    · exact s.setMode_unreported _
  · exact s.setMode_unreported _
  · exact s.setMode_unreported _
  · exact s.setMode_unreported _

theorem State.endGuard_unreported (s : State) : Unreported s s.endGuard := by
  unfold State.endGuard
  split
  · exact s.setMode_unreported _
  · exact s.setMode_unreported _
  · exact ⟨rfl, rfl⟩

/-- The client is neither holder nor next holder. -/
def State.without (s : State) (c : Client) : Prop := s.arb.mode.holder ≠ some c ∧ s.arb.mode.next ≠ some c

theorem State.without_of_mode {m : ArbiterMode} (hm : s.arb.mode = m) (holder : m.holder ≠ some c)
    (next : m.next ≠ some c) : s.without c := by
  unfold State.without
  rw [hm]
  exact ⟨holder, next⟩

theorem State.pick_ne {ok : Client → Bool} {d : Client} {w : Nat} (hw : s.waitingClaims c = [])
    (hp : s.pick ok = some (d, w)) : d ≠ c := by
  rintro rfl
  have weight := (State.pick_some hp).2.1
  rw [(s.waitingWeight_eq_none_iff d).mpr hw] at weight
  cases weight

/-- A hand-off gives the air to no client without a waiting claim (R94). -/
theorem State.handOff_without (hw : s.waitingClaims c = []) : s.handOff.without c := by
  rcases s.handOff_cases with ⟨_, e⟩ | ⟨d, w, hp, ⟨_, _, e⟩ | ⟨g, _, _, e⟩ | ⟨_, e⟩⟩ <;> rw [e]
  · rcases s.park_cases with ⟨_, _, e⟩ | ⟨g, _, _, e⟩ | ⟨_, e⟩ <;> rw [e]
    · exact State.without_of_mode (s.setMode_mode _) nofun nofun
    · exact State.without_of_mode (s.setMode_mode _) nofun nofun
    · exact State.without_of_mode (s.setMode_mode _) nofun nofun
  · exact State.without_of_mode (s.setMode_mode _) (by simpa [ArbiterMode.holder] using State.pick_ne hw hp) nofun
  · exact State.without_of_mode (s.setMode_mode _) nofun (by simpa [ArbiterMode.next] using State.pick_ne hw hp)
  · exact State.without_of_mode (s.setMode_mode _) nofun (by simpa [ArbiterMode.next] using State.pick_ne hw hp)

theorem State.endGuard_without (h : s.without c) : s.endGuard.without c := by
  unfold State.endGuard
  split
  · rename_i d g hm
    have other : d ≠ c := fun e => h.2 (by rw [hm, e]; rfl)
    exact State.without_of_mode (s.setMode_mode _) (by simpa [ArbiterMode.holder] using other) nofun
  · exact State.without_of_mode (s.setMode_mode _) nofun nofun
  · exact h

/-- The answer to a client with no claim left: it does not get the air, nobody is told, nothing is counted (R107). -/
theorem State.claimsLeft_gone (b : State) (hw : s.waitingClaims c = []) (hh : s.holdingClaims c = []) :
    (b.claimsLeft s c).without c ∧ Unreported s (b.claimsLeft s c) := by
  rcases b.claimsLeft_of_gone hw hh with ⟨_, e⟩ | ⟨holder, next, e⟩ <;> rw [e]
  · have without := State.handOff_without hw
    have quiet := s.handOff_unreported
    rcases s.passZeroGuard_cases s.handOff with e | ⟨_, _, _, e⟩ <;> rw [e]
    · exact ⟨without, quiet⟩
    · obtain ⟨links, preemptions⟩ := s.handOff.endGuard_unreported
      exact ⟨State.endGuard_without without, links.trans quiet.1, preemptions.trans quiet.2⟩
  · exact ⟨⟨holder, next⟩, rfl, rfl⟩

theorem State.without_gnt (h : s.without c) : s.gnt c = false := by
  have other : s.arb.mode ≠ .held c := fun e => h.1 (by rw [e]; rfl)
  simp [State.gnt, other]

end Gone

/-! ## The entries of a silent client -/

/-- A change of single entries that leaves the owner's own entries alone leaves them in their order. -/
theorem filter_filterMap_of_fixed {c : Client} {f : Entry → Option Entry} {es : List Entry}
    (ho : ∀ e y, f e = some y → y.owner = e.owner) (hf : ∀ e ∈ es, e.owner = c → f e = some e) :
    (es.filterMap f).filter (fun e => e.owner == c) = es.filter fun e => e.owner == c := by
  rw [List.filter_filterMap, ← List.filterMap_eq_filter]
  refine List.filterMap_congr fun e he => ?_
  by_cases hc : e.owner = c
  · simp [hf e he hc, hc, Option.guard, Option.filter]
  · cases hy : f e with
    | none => simp [Option.guard, hc]
    | some y => simp [Option.filter, Option.guard, hc, ho e y hy]

/-- The client's entries are all SUSPENDED. -/
def allSuspended (c : Client) (es : List Entry) : Prop := ∀ e ∈ es, e.owner = c → e.isSuspended = true

theorem allSuspended_of_filter {c : Client} {es es' : List Entry}
    (h : es'.filter (fun e => e.owner == c) = es.filter fun e => e.owner == c) (hs : allSuspended c es) :
    allSuspended c es' := by
  intro e he ho
  have mem : e ∈ es.filter fun e => e.owner == c := by
    rw [← h]
    exact List.mem_filter.mpr ⟨he, by simp [ho]⟩
  exact hs e (List.mem_of_mem_filter mem) ho

/-- The arbiter leaves SUSPENDED entries as they are. -/
theorem arbiterClosed_suspended : ArbiterClosed fun s t => ∀ c, allSuspended c s.plan →
    t.plan.filter (fun e => e.owner == c) = s.plan.filter fun e => e.owner == c where
  refl _ := fun _ _ => rfl
  trans h k := fun c hc => (k c (allSuspended_of_filter (h c hc) hc)).trans (h c hc)
  setMode s m := by simp
  setPosition _ _ := fun _ _ => rfl
  turnHolding s d := fun c hc => by
    have plan : (s.turnHolding d).plan = s.plan.filterMap fun e => some (e.grantTo d s.clock) :=
      (congrFun List.filterMap_eq_map' s.plan).symm
    rw [plan]
    refine filter_filterMap_of_fixed (fun e y hy => ?_) fun e he ho => ?_
    · cases hy
      exact congrArg (fun k => k.2.1) (Entry.grantTo_booking d s.clock e)
    · obtain ⟨b, hb⟩ := e.isSuspended_iff.mp (hc e he ho)
      simp [Entry.grantTo, hb]
  cutHoldings s d := fun c hc => by
    rw [s.cutHoldings_eq d]
    refine filter_filterMap_of_fixed (fun _ _ => Entry.cutFor_owner) fun e he ho => ?_
    obtain ⟨b, hb⟩ := e.isSuspended_iff.mp (hc e he ho)
    simp [Entry.cutFor, Entry.isHolding, hb]
  countPreemption _ := fun _ _ => rfl

/-! ## Steps by whole periods -/

theorem later_iff (a b : AirTime) : later a b = true ↔ 0 < (a - b).toNat ∧ (a - b).toNat < 2 ^ 31 := by
  simp [later]

/-- The place of an air time `n` µs after `t`, seen from `now`. -/
theorem toNat_add_sub (t now : AirTime) (n : Nat) (hn : n < 2 ^ 32) :
    (t + BitVec.ofNat 32 n - now).toNat = (n + (2 ^ 32 - (now - t).toNat)) % 2 ^ 32 := by
  have regroup : t + BitVec.ofNat 32 n - now = BitVec.ofNat 32 n - (now - t) := by bv_omega
  rw [regroup, BitVec.toNat_sub, BitVec.toNat_ofNat, Nat.mod_eq_of_lt hn, Nat.add_comm]

/-- The periods of R34 and R79 are the fewest that take the start past the present air time. -/
theorem periodsPast_fewest (now t : AirTime) {p : Nat} (h1 : 1 ≤ p) (hp : p ≤ 1000000) :
    later (t + BitVec.ofNat 32 (periodsPast now t p * p)) now = true ∧
      ∀ j, j < periodsPast now t p → later (t + BitVec.ofNat 32 (j * p)) now = false := by
  unfold periodsPast
  split
  · rename_i past
    exact ⟨by simpa using past, nofun⟩
  · rename_i notPast
    have place (n : Nat) (hn : n < 2 ^ 32) : later (t + BitVec.ofNat 32 n) now = true ↔
        0 < (n + (2 ^ 32 - (now - t).toNat)) % 2 ^ 32 ∧ (n + (2 ^ 32 - (now - t).toNat)) % 2 ^ 32 < 2 ^ 31 := by
      rw [later_iff, toNat_add_sub _ _ _ hn]
    have notNow : ¬ later (t + BitVec.ofNat 32 0) now = true := by simpa using notPast
    rw [place 0 (by decide)] at notNow
    have whole := Nat.div_add_mod' (now - t).toNat p
    have rest := Nat.mod_lt (now - t).toNat h1
    have turn := (now - t).isLt
    generalize (now - t).toNat = d at *
    have next : (d / p + 1) * p = d / p * p + p := Nat.succ_mul _ p
    refine ⟨?_, fun j hj => ?_⟩
    · rw [place _ (by omega)]
      omega
    · have earlier : j * p ≤ d / p * p := Nat.mul_le_mul_right p (Nat.le_of_lt_succ hj)
      rw [← Bool.not_eq_true, place _ (by omega)]
      omega

end Sys2Proof.Machine
end

section
namespace Sys2Proof.Machine

/-! ## PRESENCE_EXPIRY -/

section Presence

variable {s : State} {c : Client} {d : AirTime}

theorem exec_presenceExpiry (high : s.resetn = true) (ha : s.admitted c = true) (hd : (s.sup.get c).deadline = some d)
    (hr : reached s.clock d = true) : exec (.presenceExpiry c) s = .next (s.claimsLeft (s.silenced c) c) := by
  have due : s.presenceDue c = true := by simp [State.presenceDue, ha, hd, hr]
  simp only [exec, execPresenceExpiry, s.whenRunning_high _ high, due, if_true, State.silence_eq]

/-- Before the deadline nothing happens (log entry 5). -/
theorem exec_presenceExpiry_early (hd : (s.sup.get c).deadline = some d) (hr : reached s.clock d = false) :
    exec (.presenceExpiry c) s = .next s := by
  have early : s.presenceDue c = false := by simp [State.presenceDue, hd, hr]
  simp [exec, execPresenceExpiry, State.whenRunning, early]

/-- Silencing a client suspends its own entries, in their order. -/
theorem State.silenced_filter (s : State) (c : Client) :
    (s.silenced c).plan.filter (fun e => e.owner == c) =
      (s.plan.filter fun e => e.owner == c).map fun e => e.suspend s.clock := by
  have owner : ((fun e : Entry => e.owner == c) ∘ fun e => if e.owner = c then e.suspend s.clock else e) =
      fun e => e.owner == c := funext fun e => by rw [Function.comp_apply, (e.silenced_owner c s.clock).2]
  have plan : (s.silenced c).plan = s.plan.map fun e => if e.owner = c then e.suspend s.clock else e := rfl
  rw [plan, List.filter_map, owner]
  refine List.map_congr_left fun e he => if_pos ?_
  simpa using (List.mem_filter.mp he).2

end Presence

/-- Settles O15: the silenced client has no claim left, so the arbiter's answer is at most a hand-off. -/
theorem presenceExpirySilences : Obligations.PresenceExpirySilences := by
  refine ⟨fun s c d high ha hd hr => ⟨_, exec_presenceExpiry high ha hd hr, rfl, ?_⟩, fun e now h => ?_,
    fun e now lo hi => ?_, fun s c d => exec_presenceExpiry_early⟩
  · obtain ⟨waiting, holding⟩ := s.silenced_no_claims c
    obtain ⟨without, links, preemptions⟩ := State.claimsLeft_gone s waiting holding
    have keeps := s.claimsLeft_keeps (s.silenced c) c
    have idle : ((s.silenced c).live.get c).state = .idle := congrArg LiveClaim.state (PerClient.get_set_same _ _ _)
    have live := arbiterClosed_idleLive.claimsLeft s (s.silenced c) c c idle
    have plan := arbiterClosed_suspended.claimsLeft s (s.silenced c) c c (s.silenced_suspended c)
    obtain ⟨_, _, usage, _⟩ := keeps_claimsLeft (W := fun _ => False) (s := s.silenced c) s c .accounts id
    exact ⟨keeps.sup, live.trans (PerClient.get_set_same _ _ _), plan.trans (s.silenced_filter c), keeps.port,
      State.without_gnt without, links, preemptions, usage, keeps.policy, keeps.channel⟩
  · exact if_pos h
  · obtain ⟨past, fewest⟩ := periodsPast_fewest now e.start (p := e.period) (by omega) hi
    exact ⟨_, if_neg (by omega), past, fewest⟩

end Sys2Proof.Machine
end

section
namespace Sys2Proof.Machine

/-! ## Teardown -/

section Teardown

variable (s : State) (c : Client)

theorem State.emptied_sup : (s.emptied c).sup = s.sup.set c ⟨.detached, none, (s.sup.get c).frozen⟩ := by
  rw [s.emptied_frame c]
  rfl

/-- The torn-down client's own link: MASK goes to the two other clients alone (R36, R135). -/
theorem State.emptied_link :
    (s.emptied c).links.get c = { s.links.get c with draft := .initial, notices := 0 } := by
  unfold State.emptied
  split
  · rename_i hc
    subst hc
    exact congrArg PerClient.nr ((s.stripped .nr).recompute_links none)
  · exact PerClient.get_set_same _ _ _

theorem State.emptied_channel :
    (c = .nr → (s.emptied c).channel = .clear) ∧ (c ≠ .nr → (s.emptied c).channel = s.channel) := by
  unfold State.emptied
  constructor <;> intro hc
  · rw [if_pos hc, State.recompute_frame]
    rfl
  · rw [if_neg hc]
    rfl

/-- What a teardown leaves of every other block, and of the client's own records (R36). -/
structure State.TeardownKeeps (s t : State) (c : Client) : Prop where
  sup : t.sup = s.sup.set c ⟨.detached, none, (s.sup.get c).frozen⟩
  link : t.links.get c = { s.links.get c with draft := .initial, notices := 0 }
  clock : t.clock = s.clock
  policy : t.policy = s.policy
  port : t.port = s.port

theorem State.teardown_keeps : s.TeardownKeeps (s.teardown c) c := by
  obtain ⟨waiting, holding⟩ := s.emptied_no_claims c
  obtain ⟨_, links, _⟩ := State.claimsLeft_gone s waiting holding
  have keeps := s.claimsLeft_keeps (s.emptied c) c
  have frame := s.emptied_frame c
  rw [s.teardown_eq c]
  exact ⟨keeps.sup.trans (s.emptied_sup c), (congrArg (PerClient.get · c) links).trans (s.emptied_link c),
    keeps.clock.trans (by rw [frame]; rfl), keeps.policy.trans (by rw [frame]; rfl),
    keeps.port.trans (by rw [frame]; rfl)⟩

/-- A teardown leaves what R36 says: the torn-down client has no claim left, so the arbiter's answer is at most a
hand-off. -/
theorem State.teardown_tornDown : s.tornDown (s.teardown c) c := by
  obtain ⟨waiting, holding⟩ := s.emptied_no_claims c
  obtain ⟨without, _, preemptions⟩ := State.claimsLeft_gone s waiting holding
  obtain ⟨sup, link, _, policy, _⟩ := s.teardown_keeps c
  have frame := s.emptied_frame c
  have flows : ∀ f ∈ (s.emptied c).flows, f.owner ≠ c := fun f hf => by
    rw [frame] at hf
    simpa using (List.mem_filter.mp hf).2
  have plan : ∀ e ∈ (s.emptied c).plan, e.owner ≠ c := fun e he => by
    rw [frame] at he
    simpa using (List.mem_filter.mp he).2
  have live : (s.emptied c).live.get c = { s.live.get c with state := .idle, binding := none } := by
    rw [frame]
    exact PerClient.get_set_same _ _ _
  have channel := s.emptied_channel c
  have keeps := s.claimsLeft_keeps (s.emptied c) c
  obtain ⟨_, _, usage, _⟩ := keeps_claimsLeft (W := fun _ => False) (s := s.emptied c) s c .accounts id
  refine ⟨fun f hf => ?_, fun e he => ?_, ?_, by rw [link], by rw [link], by rw [link], by rw [sup]; simp,
    fun d hd => by rw [sup]; simp [hd], State.without_gnt without, fun d => (usage d).trans (by rw [frame]; rfl),
    preemptions.trans (by rw [frame]; rfl), policy, fun hc => keeps.channel.trans (channel.1 hc),
    fun hc => keeps.channel.trans (channel.2 hc), s.emptied c, ?_, rfl, rfl, rfl, rfl, rfl⟩
  · obtain ⟨g, hg, same⟩ := (arbiterClosed_sameFlows.claimsLeft s (s.emptied c) c).mem_of hf
    have owner : g.owner = f.owner := congrArg (fun k => k.2.1) same
    exact owner ▸ flows g hg
  · obtain ⟨x, hx, same⟩ := s.claimsLeft_bookedIn (s.emptied c) c e he
    simp only [Entry.booking, Prod.mk.injEq] at same
    exact same.2.1 ▸ plan x hx
  · have idle : ((s.emptied c).live.get c).state = .idle := by rw [live]
    exact (arbiterClosed_idleLive.claimsLeft s _ c c idle).trans live
  · rw [frame]
    rfl

/-- Of the client's record and link the freeze and the link-error count are as they were, and the other clients' records
are (R36, R38, R141). -/
structure SameButFor (c : Client) (p q : PerClient Supervision) (k l : PerClient Link) : Prop where
  others : ∀ d, d ≠ c → q.get d = p.get d
  frozen : (q.get c).frozen = (p.get c).frozen
  errors : (l.get c).errors = (k.get c).errors

variable {s c}

/-- A frame that is taken before a teardown, and an answer left after it, are no part of what `tornDown` says. -/
theorem State.tornDown.of_frame {p q : PerClient Supervision} {k l : PerClient Link} {t : State} {r : Port}
    (h : State.tornDown { s with sup := p, links := k } t c) (before : SameButFor c s.sup p s.links k)
    (after : SameButFor c t.sup q t.links l) (draft : (l.get c).draft = (t.links.get c).draft)
    (notices : (l.get c).notices = (t.links.get c).notices) :
    s.tornDown { t with sup := q, links := l, port := r } c := by
  obtain ⟨flows, plan, live, draft', notices', errors, frozen, others, gnt, usage, preemptions, policy, clear, masks,
    u, hu, answer⟩ := h
  exact ⟨flows, plan, live, draft.trans draft', notices.trans notices',
    (after.errors.trans errors).trans before.errors, (after.frozen.trans frozen).trans before.frozen,
    fun d hd => ((after.others d hd).trans (others d hd)).trans (before.others d hd), gnt, usage, preemptions, policy,
    clear, masks, u, hu, answer⟩

theorem State.supAfterFrame_same (s : State) (c : Client) (k : PerClient Link)
    (h : (k.get c).errors = (s.links.get c).errors) : SameButFor c s.sup (s.supAfterFrame c) s.links k := by
  unfold State.supAfterFrame
  split
  · exact ⟨fun d hd => PerClient.get_set_other _ _ _ _ hd, PerClient.map_get_set Supervision.frozen _ _ _ _ rfl, h⟩
  · exact ⟨fun _ _ => rfl, rfl, h⟩

theorem State.frameTaken_attached (h : (s.sup.get c).state ≠ .detached) :
    ((s.frameTaken c).sup.get c).state ≠ .detached := by
  unfold State.frameTaken State.supAfterFrame
  split
  · dsimp only
    rw [PerClient.get_set_same]
    nofun
  · exact h

end Teardown

/-- Settles O14. -/
theorem teardownLeavesNothing : Obligations.TeardownLeavesNothing := by
  refine ⟨fun s c v h attached => ⟨_, exec_attach v h, ?_⟩, fun s c v h attached => ⟨_, exec_detach v h, ?_⟩,
    fun s c b h hb attached => ⟨_, exec_evict h hb, ?_⟩⟩
  · rw [State.teardownIfAttached_attached (s := s.onLink c Link.consume) attached]
    have torn := (s.onLink c Link.consume).teardown_tornDown c
    obtain ⟨sup, link, clock, policy, _⟩ := (s.onLink c Link.consume).teardown_keeps c
    generalize (s.onLink c Link.consume).teardown c = t at *
    have before : SameButFor c s.sup s.sup s.links (s.onLink c Link.consume).links :=
      ⟨fun _ _ => rfl, rfl, PerClient.map_get_set Link.errors _ _ _ _ rfl⟩
    refine ⟨torn.of_frame before ⟨fun d hd => PerClient.get_set_other _ _ _ _ hd,
      PerClient.map_get_set Supervision.frozen _ _ _ _ rfl, PerClient.map_get_set Link.errors _ _ _ _ rfl⟩
      (PerClient.map_get_set Link.draft _ _ _ _ rfl) (PerClient.map_get_set Link.notices _ _ _ _ rfl),
      ?_, ?_, ?_, ?_⟩ <;> simp [State.attachedAnew, clock, policy]
  · rw [State.teardownIfAttached_attached (State.frameTaken_attached attached)]
    have torn := (s.frameTaken c).teardown_tornDown c
    obtain ⟨sup, link, _⟩ := (s.frameTaken c).teardown_keeps c
    generalize (s.frameTaken c).teardown c = t at *
    have before := s.supAfterFrame_same c (s.frameTaken c).links (PerClient.map_get_set Link.errors _ _ _ _ rfl)
    refine ⟨torn.of_frame before ⟨fun _ _ => rfl, rfl, PerClient.map_get_set Link.errors _ _ _ _ rfl⟩
      (PerClient.map_get_set Link.draft _ _ _ _ rfl) (PerClient.map_get_set Link.notices _ _ _ _ rfl),
      ?_, ?_, ?_⟩ <;> simp [State.answer, sup]
  · rw [State.teardownIfAttached_attached attached, State.finishWrite_eq]
    have torn := s.teardown_tornDown c
    obtain ⟨sup, link, _, _, port⟩ := s.teardown_keeps c
    generalize s.teardown c = t at *
    have same : ∀ u : State, SameButFor c u.sup u.sup u.links u.links := fun _ => ⟨fun _ _ => rfl, rfl, rfl⟩
    exact ⟨torn.of_frame (same s) (same t) rfl rfl, by simp [sup], by simp [sup], by rw [link], by rw [link],
      by rw [port]⟩

end Sys2Proof.Machine
end

section
namespace Sys2Proof.Machine

/-! ## PIN FLOW and UNPIN FLOW -/

section Pins

variable {s t : State} {c : Client} {f : Flow} {q : Option FlowClass}

/-- The flow pinned to `q`, or unpinned, and its owner told, before the effects of R48 (R50, R51). -/
def State.repinned (s : State) (f : Flow) (q : Option FlowClass) : State :=
  { s.giveNotice f.owner .policy with flows := onSlot f.slot (fun _ => { f with pinned := q }) s.flows }

theorem effectiveClass_pinned (f : Flow) (q : Option FlowClass) :
    effectiveClass { f with pinned := q } = q.getD f.requested := rfl

theorem State.setPin_same (h : f.pinned = q) : s.setPin f q = s := if_pos h

/-- A pin that leaves the effective class as it was has no further effect (R48). -/
theorem State.setPin_kept (h : f.pinned ≠ q) (hk : q.getD f.requested = effectiveClass f) :
    s.setPin f q = s.repinned f q := by
  rw [State.setPin, if_neg h, State.reclassed, effectiveClass_pinned, if_pos hk, State.onFlow, State.giveNotice_flows]
  rfl

theorem State.pinned_ne_of_class (hk : q.getD f.requested ≠ effectiveClass f) : f.pinned ≠ q :=
  fun h => hk (h ▸ rfl)

theorem State.setPin_changed (hk : q.getD f.requested ≠ effectiveClass f) :
    s.setPin f q = (s.repinned f q).classChanged f := by
  rw [State.setPin, if_neg (State.pinned_ne_of_class hk), State.reclassed, effectiveClass_pinned, if_neg hk,
    State.onFlow, State.giveNotice_flows]
  rfl

/-- With no live claim of the flow holding, a change of class brings the arbiter's check alone (R48). -/
theorem State.classChanged_quiet (h : s.liveHolding f.owner = none ∨ (s.live.get f.owner).binding ≠ some f.slot) :
    s.classChanged f = s.stateCheck := by
  unfold State.classChanged
  split
  · rename_i bound
    have none : s.liveHolding f.owner = none := h.resolve_right (not_not.mpr bound)
    have kept : s.refreshHold f.owner = s := by
      unfold State.refreshHold
      unfold State.liveHolding at none
      split
      · rename_i hl hb
        rw [hl, hb] at none
        cases none
      · rfl
    rw [kept]
  · rfl

/-- A HOLDING live claim with its hold deadline replaced. -/
def State.withHold (s : State) (c : Client) (u : Bool) (a l : AirTime) : State :=
  { s with live := s.live.set c { s.live.get c with state := .holding u a l } }

/-- A HOLDING live claim of the flow has its hold deadline refreshed, and expires where it has been reached (R48, R119,
R120). -/
theorem State.classChanged_holding {u : Bool} {a d : AirTime} (hb : (s.live.get f.owner).binding = some f.slot)
    (hl : (s.live.get f.owner).state = .holding u a d) {l : AirTime} (hlim : l = after a (s.holdLimitOf f.slot)) :
    s.classChanged f =
      (if reached s.clock l then (s.withHold f.owner u a l).expireHold f.owner else
        s.withHold f.owner u a l).stateCheck := by
  subst hlim
  unfold State.classChanged State.refreshHold
  rw [if_pos hb, hb, hl]
  rfl

theorem State.flowAt_onSlot {n : Nat} {es : List Flow} {g : Flow} (h : es.find? (·.slot == n) = some f)
    (hg : g.slot = f.slot) : (onSlot f.slot (fun _ => g) es).find? (·.slot == n) = some g := by
  have slot : f.slot = n := by simpa using List.find?_some h
  have same : ((fun x : Flow => x.slot == n) ∘ fun x => if x.slot = f.slot then g else x) = fun x => x.slot == n :=
    funext fun x => by
      by_cases hx : x.slot = f.slot
      · rw [Function.comp_apply, if_pos hx, hg, hx]
      · rw [Function.comp_apply, if_neg hx]
  rw [onSlot, List.find?_map, same, h, Option.map_some, if_pos rfl]

/-- The hold limit of a flow just pinned is that of its new effective class (R48, R118). -/
theorem State.repinned_holdLimit (h : s.flowAt f.slot = some f) :
    (s.repinned f q).holdLimitOf f.slot = (s.policy.classes.row (q.getD f.requested)).holdLimit := by
  have found : (s.repinned f q).flowAt f.slot = some { f with pinned := q } := State.flowAt_onSlot h rfl
  have policy : (s.repinned f q).policy = s.policy := s.giveNotice_policy f.owner .policy
  rw [State.holdLimitOf, State.rowOfSlot, found, policy]
  rfl

/-! ### The rows -/

theorem saturate_class (k : Byte) :
    saturate 0 5 k.toNat = min 5 k.toNat ∧ clampedIf (outside 0 5 k.toNat) = if 5 < k.toNat then .clamped else .ok := by
  constructor
  · simp [saturate]
  · simp only [clampedIf, outside_iff, Nat.not_lt_zero, false_or]

/-- A PIN FLOW with the pin it writes and its result, or an UNPIN FLOW. -/
def Instr.pins (i : Instr) (b k : Byte) (q : Option FlowClass) (r : PortResult) : Prop :=
  i = .pinFlow b k ∧ q = classOfCode (min 5 k.toNat) ∧ r = (if 5 < k.toNat then .clamped else .ok) ∨
    i = .unpinFlow b ∧ q = none ∧ r = .ok

theorem exec_pins {i : Instr} {b k : Byte} {r : PortResult} (hi : Instr.pins i b k q r) (high : s.resetn = true)
    (hf : s.flowAt b.toNat = some f) : exec i s = .next ((s.setPin f q).finishWrite r []) := by
  obtain ⟨saturated, clamped⟩ := saturate_class k
  rcases hi with ⟨rfl, rfl, rfl⟩ | ⟨rfl, rfl, rfl⟩
  · simp only [exec, execPinFlow, s.whenRunning_high _ high, hf, saturated, clamped]
  · simp only [exec, execUnpinFlow, s.whenRunning_high _ high, hf]

theorem State.repinned_port (s : State) (f : Flow) (q : Option FlowClass) : (s.repinned f q).port = s.port :=
  s.giveNotice_port f.owner .policy

/-- With the effective class as it was, or at rest with no live claim of the flow holding, nothing else changes. -/
theorem State.setPin_quiet (h : f.pinned ≠ q) (hq : q.getD f.requested = effectiveClass f ∨
      s.atRest ∧ (s.liveHolding f.owner = none ∨ (s.live.get f.owner).binding ≠ some f.slot)) :
    s.setPin f q = s.repinned f q := by
  by_cases hk : q.getD f.requested = effectiveClass f
  · exact State.setPin_kept h hk
  · obtain ⟨rest, none⟩ := hq.resolve_left hk
    have live : (s.repinned f q).live = s.live := s.giveNotice_live f.owner .policy
    have arb : (s.repinned f q).arb = s.arb := s.giveNotice_arb f.owner .policy
    rw [State.setPin_changed hk, State.classChanged_quiet (by unfold State.liveHolding; rw [live]; exact none),
      State.stateCheck_rest _ (by rw [arb]; exact rest)]

theorem exec_pins_quiet {i : Instr} {b k : Byte} {r : PortResult} (hi : Instr.pins i b k q r) (high : s.resetn = true)
    (hf : s.flowAt b.toNat = some f) (hq : q.getD f.requested = effectiveClass f ∨
      s.atRest ∧ (s.liveHolding f.owner = none ∨ (s.live.get f.owner).binding ≠ some f.slot)) :
    exec i s = .next { (if f.pinned = q then s else s.giveNotice f.owner .policy) with
      flows := if f.pinned = q then s.flows else onSlot f.slot (fun _ => { f with pinned := q }) s.flows
      port := s.port.wrote r [] } := by
  rw [exec_pins hi high hf, State.finishWrite_eq]
  by_cases h : f.pinned = q
  · rw [State.setPin_same h, if_pos h, if_pos h]
  · rw [State.setPin_quiet h hq, if_neg h, if_neg h, State.repinned_port]
    rfl

/-- With a new effective class and no live claim of the flow holding the arbiter makes its check (R48, R103). -/
theorem exec_pins_changed {i : Instr} {b k : Byte} {r : PortResult} (hi : Instr.pins i b k q r)
    (high : s.resetn = true) (hf : s.flowAt b.toNat = some f) (hk : q.getD f.requested ≠ effectiveClass f)
    (none : s.liveHolding f.owner = none ∨ (s.live.get f.owner).binding ≠ some f.slot) :
    exec i s = .next { (s.repinned f q).stateCheck with port := s.port.wrote r [] } := by
  have live : (s.repinned f q).live = s.live := s.giveNotice_live f.owner .policy
  rw [exec_pins hi high hf, State.setPin_changed hk,
    State.classChanged_quiet (by unfold State.liveHolding; rw [live]; exact none), State.finishWrite_eq,
    (State.stateCheck_keeps _).port, State.repinned_port]

/-- With a new effective class the hold deadline follows it, an expiry it has then reached is taken, and the arbiter
makes its check (R48, R119, R120). -/
theorem exec_pins_holding {i : Instr} {b k : Byte} {r : PortResult} {u : Bool} {a d l : AirTime}
    (high : s.resetn = true) (hf : s.flowAt b.toNat = some f) (hi : Instr.pins i b k q r)
    (hk : q.getD f.requested ≠ effectiveClass f) (hb : (s.live.get f.owner).binding = some f.slot)
    (hl : (s.live.get f.owner).state = .holding u a d)
    (hlim : l = a + BitVec.ofNat 32 (s.policy.classes.row (q.getD f.requested)).holdLimit)
    (ht : t = { s.giveNotice f.owner .policy with
      flows := onSlot f.slot (fun _ => { f with pinned := q }) s.flows
      live := s.live.set f.owner { s.live.get f.owner with state := .holding u a l } }) :
    (reached s.clock l = false → exec i s = .next { t.stateCheck with port := s.port.wrote r [] }) ∧
    (reached s.clock l = true →
      exec i s = .next { (t.claimsLeft (t.overstayed f.owner f.slot) f.owner).stateCheck with
        port := { s.port with flags := s.port.flags ||| 0x020 }.wrote r [] }) := by
  have live : (s.repinned f q).live = s.live := s.giveNotice_live f.owner .policy
  have clock : (s.repinned f q).clock = s.clock := s.giveNotice_clock f.owner .policy
  have at_ : s.flowAt f.slot = some f := by
    obtain ⟨_, slot⟩ := State.flowAt_some hf
    rw [slot]
    exact hf
  have refreshed : (s.repinned f q).withHold f.owner u a l = t := by
    rw [ht, State.withHold, live]
    rfl
  have port : t.port = s.port := by rw [ht]; exact s.giveNotice_port f.owner .policy
  have bound : (t.live.get f.owner).binding = some f.slot := by rw [ht]; simp [hb]
  have changed : s.setPin f q =
      (if reached s.clock l then t.expireHold f.owner else t).stateCheck := by
    rw [State.setPin_changed hk, State.classChanged_holding (l := l) (by rw [live]; exact hb) (by rw [live]; exact hl)
      (by rw [State.repinned_holdLimit at_]; exact hlim), clock, refreshed]
  constructor <;> intro hr <;> rw [exec_pins hi high hf, changed, hr, State.finishWrite_eq,
    (State.stateCheck_keeps _).port]
  · rw [if_neg nofun, port]
  · rw [if_pos rfl, t.expireHold_eq f.owner f.slot bound, (State.claimsLeft_keeps _ _ _).port, ← port]
    rfl

end Pins

end Sys2Proof.Machine
end

section
namespace Sys2Proof.Machine

/-! ## What a pin leaves, whatever the arbiter answers -/

/-- From `s` to `t` every flow has kept its profile and every client its POLICY notice. -/
def PinsStand (s t : State) : Prop :=
  SameFlows s t ∧ ∀ c, (t.links.get c).notices.getLsbD 6 = (s.links.get c).notices.getLsbD 6

section PinsStand

variable {s t : State} {c : Client} {f : Flow} {q : Option FlowClass}

theorem PinsStand.trans {u : State} (h : PinsStand s t) (k : PinsStand t u) : PinsStand s u :=
  ⟨Eq.trans k.1 h.1, fun c => (k.2 c).trans (h.2 c)⟩

theorem State.giveNotice_bit (s : State) (c d : Client) (n : Notice) (i : Nat) :
    ((s.giveNotice c n).links.get d).notices.getLsbD i =
      ((s.links.get d).notices.getLsbD i ||
        decide (d = c ∧ (s.sup.get c).state ≠ .detached) && (noticeBit n).getLsbD i) := by
  unfold State.giveNotice
  by_cases h : (s.sup.get c).state = .detached
  · simp [h]
  · by_cases hd : d = c
    · subst hd; simp [h]
    · simp [h, hd]

/-- The arbiter reclasses no flow and gives no POLICY. -/
theorem arbiterClosed_pinsStand : ArbiterClosed PinsStand where
  refl _ := ⟨rfl, fun _ => rfl⟩
  trans := .trans
  setMode s m := ⟨arbiterClosed_sameFlows.setMode s m, by simp⟩
  setPosition _ _ := ⟨rfl, fun _ => rfl⟩
  turnHolding s c := ⟨arbiterClosed_sameFlows.turnHolding s c, fun _ => rfl⟩
  cutHoldings s c := by
    refine ⟨arbiterClosed_sameFlows.cutHoldings s c, fun d => ?_⟩
    have links : (s.cutHoldings c).links = s.cutLinks c := by rw [s.cutHoldings_eq c]
    rw [links, State.cutLinks]
    split
    · rfl
    · by_cases hd : d = c
      · subst hd
        rw [PerClient.get_set_same]
        split <;> simp
      · rw [PerClient.get_set_other _ _ _ _ hd]
  countPreemption _ := ⟨rfl, fun _ => rfl⟩

theorem State.overstayed_pinsStand (s : State) (c : Client) (k : Nat) : PinsStand s (s.overstayed c k) := by
  refine ⟨onSlot_map Flow.profile k _ s.flows fun _ _ _ => rfl, fun d => ?_⟩
  have links : (s.overstayed c k).links = (s.giveNotice c .overstay).links := rfl
  rw [links, State.giveNotice_bit]
  simp [noticeBit]

/-- Whatever the effects of a change of class, the pin stands and POLICY is as it was. -/
theorem State.classChanged_pinsStand (s : State) (f : Flow) : PinsStand s (s.classChanged f) := by
  by_cases quiet : s.liveHolding f.owner = none ∨ (s.live.get f.owner).binding ≠ some f.slot
  · rw [State.classChanged_quiet quiet]
    exact arbiterClosed_pinsStand.stateCheck s
  · obtain ⟨some, bound⟩ := not_or.mp quiet
    have bound := not_not.mp bound
    obtain ⟨u, a, d, holding⟩ : ∃ u a d, (s.live.get f.owner).state = .holding u a d := by
      unfold State.liveHolding at some
      cases hl : (s.live.get f.owner).state with
      | holding u a d => exact ⟨u, a, d, rfl⟩
      | _ => simp [hl] at some
    rw [State.classChanged_holding bound holding rfl]
    refine PinsStand.trans ?_ (arbiterClosed_pinsStand.stateCheck _)
    have refreshed : ∀ l, PinsStand s (s.withHold f.owner u a l) := fun _ => ⟨rfl, fun _ => rfl⟩
    split
    · rw [State.expireHold_eq _ f.owner f.slot (by simp [State.withHold, bound])]
      exact ((refreshed _).trans (State.overstayed_pinsStand _ _ _)).trans (arbiterClosed_pinsStand.claimsLeft _ _ _)
    · exact refreshed _

/-- A pin that changes leaves the flow pinned, and its owner with POLICY unless DETACHED (R50, R51). -/
theorem State.repinned_stands (hf : f ∈ s.flows) :
    ((s.repinned f q).links.get f.owner).notices.getLsbD 6 =
        ((s.links.get f.owner).notices.getLsbD 6 || decide ((s.sup.get f.owner).state ≠ .detached)) ∧
      { f with pinned := q } ∈ (s.repinned f q).flows := by
  constructor
  · have links : (s.repinned f q).links = (s.giveNotice f.owner .policy).links := rfl
    rw [links, State.giveNotice_bit]
    simp [noticeBit]
  · exact List.mem_map.mpr ⟨f, hf, if_pos rfl⟩

theorem State.setPin_pinsStand (h : f.pinned ≠ q) : PinsStand (s.repinned f q) (s.setPin f q) := by
  by_cases hk : q.getD f.requested = effectiveClass f
  · rw [State.setPin_kept h hk]
    exact ⟨rfl, fun _ => rfl⟩
  · rw [State.setPin_changed hk]
    exact State.classChanged_pinsStand _ f

/-- The flow's pin and its owner's notice after a PIN FLOW or UNPIN FLOW (R50, R51). -/
theorem State.setPin_stands (hf : f ∈ s.flows) :
    ((s.setPin f q).links.get f.owner).notices.getLsbD 6 =
        ((s.links.get f.owner).notices.getLsbD 6 || decide (f.pinned ≠ q ∧ (s.sup.get f.owner).state ≠ .detached)) ∧
      ∃ g ∈ (s.setPin f q).flows, g.slot = f.slot ∧ g.pinned = q ∧ g.requested = f.requested := by
  by_cases h : f.pinned = q
  · rw [State.setPin_same h]
    exact ⟨by simp [h], f, hf, rfl, h, rfl⟩
  · obtain ⟨flows, notices⟩ := State.setPin_pinsStand (s := s) h
    obtain ⟨told, pinned⟩ := State.repinned_stands (s := s) (q := q) hf
    obtain ⟨g, hg, same⟩ := flows.mem pinned
    simp only [Flow.profile, Prod.mk.injEq] at same
    obtain ⟨slot, _, _, requested, pin⟩ := same
    exact ⟨by rw [notices, told]; simp [h], g, hg, slot, pin, requested⟩

end PinsStand

/-! ## FREEZE PLAN -/

/-- FREEZE PLAN writes the flag, and gives POLICY where it changes (R38). -/
theorem exec_freezePlan {s : State} {b x : Byte} {c : Client} (high : s.resetn = true)
    (hb : clientOfIndex b.toNat = some c) :
    exec (.freezePlan b x) s =
      .next { (if (s.sup.get c).frozen = x.getLsbD 0 then s else s.giveNotice c .policy) with
        sup := s.sup.set c { s.sup.get c with frozen := x.getLsbD 0 }
        port := s.port.wrote .ok [] } := by
  simp only [exec, execFreezePlan, s.whenRunning_high _ high, hb, State.finishWrite_eq, freezeOn]
  generalize x.getLsbD 0 = flag
  by_cases h : (s.sup.get c).frozen = flag
  · simp [State.giveNoticeIf, h, State.onSup]
  · by_cases hd : (s.sup.get c).state = .detached <;>
      simp [State.giveNoticeIf, State.giveNotice, h, hd, State.onSup, State.onLink]

/-- Settles O21. -/
theorem pinsAndFreezes : Obligations.PinsAndFreezes := by
  refine ⟨fun s b k f p high hf hp hq => ?pin, fun s b f high hf hq => ?unpin, fun s b x c => exec_freezePlan,
    fun s b k high hf => ?absent, fun s b x high hb => ?range, fun s b k f p high hf hp => ?pinned,
    fun s b f high hf => ?unpinned, fun s b k f p high hf hp hk none => ?pinChecked,
    fun s b f high hf hk none => ?unpinChecked,
    fun s i b k f q r u a d l t high hf hi => exec_pins_holding high hf hi⟩
  case pin => exact exec_pins_quiet (.inl ⟨rfl, hp.symm, rfl⟩) high hf (hq.imp_left Eq.symm)
  case unpin => exact exec_pins_quiet (.inr ⟨rfl, rfl, rfl⟩) (k := 0) high hf (hq.imp_left Eq.symm)
  case absent => simp [exec, execPinFlow, execUnpinFlow, State.whenRunning, high, hf, State.refuseWrite_eq]
  case range => simp [exec, execFreezePlan, State.whenRunning, high, clientOfIndex_none hb, State.refuseWrite_eq]
  case pinned =>
    exact ⟨_, exec_pins (.inl ⟨rfl, hp.symm, rfl⟩) high hf, rfl, rfl, State.setPin_stands (State.flowAt_some hf).1⟩
  case unpinned =>
    exact ⟨_, exec_pins (.inr ⟨rfl, rfl, rfl⟩) (k := 0) high hf, rfl, rfl,
      State.setPin_stands (State.flowAt_some hf).1⟩
  case pinChecked => exact exec_pins_changed (.inl ⟨rfl, hp.symm, rfl⟩) high hf (Ne.symm hk) none
  case unpinChecked => exact exec_pins_changed (.inr ⟨rfl, rfl, rfl⟩) (k := 0) high hf (Ne.symm hk) none

end Sys2Proof.Machine
end

section
namespace Sys2Proof.Machine

/-! ## REVIVE -/

/-- A time still to come has not been reached (R2). -/
theorem reached_of_later {now a : AirTime} (h : later a now = true) : reached now a = false := by
  rw [later_iff] at h
  rw [← Bool.not_eq_true, reached, Bool.or_eq_true, decide_eq_true_eq, later_iff]
  bv_omega

/-! ### A client's own entries while they wake -/

/-- The entry falls due when it is next looked at (R68). -/
def Entry.ready (now : AirTime) (x : Entry) : Prop := x.status = .scheduled ∧ reached now x.start = true

/-- `y` is the entry `x` but for its status, which has changed only by falling due or being granted (R68, R95). -/
def Entry.Follows (now : AirTime) (x y : Entry) : Prop :=
  y = { x with status := y.status } ∧
    (y.status = x.status ∨ (x.ready now ∨ x.status = .due) ∧ (y.status = .due ∨ y.status = .holding now))

/-- Each of the client's entries in `s` is found in `t`, its status apart. -/
def OwnFollow (c : Client) (s t : State) : Prop :=
  t.clock = s.clock ∧ ∀ x ∈ s.plan, x.owner = c → ∃ y ∈ t.plan, x.Follows s.clock y

section Follows

variable {now : AirTime} {x y z : Entry}

theorem Entry.Follows.refl (now : AirTime) (x : Entry) : x.Follows now x := ⟨rfl, .inl rfl⟩

theorem Entry.Follows.start (h : x.Follows now y) : y.start = x.start := by rw [h.1]

theorem Entry.Follows.owner (h : x.Follows now y) : y.owner = x.owner := by rw [h.1]

theorem Entry.Follows.number (h : x.Follows now y) : y.number = x.number := by rw [h.1]

theorem Entry.not_ready_of_status (h : y.status = .due ∨ y.status = .holding now) : ¬ y.ready now := by
  rintro ⟨scheduled, _⟩
  simp [scheduled] at h

/-- Nothing makes an entry ready again. -/
theorem Entry.Follows.not_ready (h : x.Follows now y) (hx : ¬ x.ready now) : ¬ y.ready now := by
  rcases h.2 with same | ⟨_, status⟩
  · unfold Entry.ready
    rwa [same, h.start]
  · exact Entry.not_ready_of_status status

theorem Entry.Follows.trans (h : x.Follows now y) (k : y.Follows now z) : x.Follows now z := by
  refine ⟨k.1.trans (congrArg (fun e : Entry => { e with status := z.status }) h.1), ?_⟩
  rcases h.2 with same | ⟨woke, status⟩
  · have started := h.start
    simpa only [Entry.ready, same, started] using k.2
  · rcases k.2 with same | ⟨_, later⟩
    · exact .inr ⟨woke, same ▸ status⟩
    · exact .inr ⟨woke, later⟩

/-- A scheduled entry that is left with nothing to do waits for its start, or has fallen due. -/
theorem Entry.Follows.of_scheduled (h : x.Follows now y) (hs : x.status = .scheduled) (hy : ¬ y.ready now) :
    (reached now x.start = false → y.status = .scheduled) ∧
      (reached now x.start = true → y.status = .due ∨ y.status = .holding now) := by
  rcases h.2 with same | ⟨ready | due, status⟩
  · rw [← h.start, same, hs]
    exact ⟨fun _ => rfl, fun arrived => absurd ⟨same.trans hs, arrived⟩ hy⟩
  · exact ⟨fun early => absurd ready.2 (by simp [early]), fun _ => status⟩
  · rw [hs] at due; cases due

end Follows

section OwnFollow

variable {c : Client} {s t u : State}

theorem OwnFollow.trans (h : OwnFollow c s t) (k : OwnFollow c t u) : OwnFollow c s u := by
  refine ⟨k.1.trans h.1, fun x hx ho => ?_⟩
  obtain ⟨y, hy, hxy⟩ := h.2 x hx ho
  obtain ⟨z, hz, hyz⟩ := k.2 y hy (hxy.owner.trans ho)
  exact ⟨z, hz, hxy.trans (h.1 ▸ hyz)⟩

theorem OwnFollow.of_plan (clock : t.clock = s.clock) (plan : t.plan = s.plan) : OwnFollow c s t :=
  ⟨clock, fun x hx _ => ⟨x, plan ▸ hx, .refl _ x⟩⟩

theorem ownFollow_setMode (m : ArbiterMode) : OwnFollow c s (s.setMode m) := .of_plan (by simp) (by simp)

/-- A grant turns the client's DUE entries HOLDING (R95). -/
theorem ownFollow_turnHolding (d : Client) : OwnFollow c s (s.turnHolding d) := by
  refine ⟨rfl, fun x hx _ => ⟨x.grantTo d s.clock, List.mem_map_of_mem hx, ?_⟩⟩
  unfold Entry.grantTo
  split
  · rename_i h; exact ⟨rfl, .inr ⟨.inr h.2, .inr rfl⟩⟩
  · exact .refl _ x

theorem ownFollow_grant (d : Client) : OwnFollow c s (s.grant d) :=
  (ownFollow_setMode _).trans (ownFollow_turnHolding d)

theorem ownFollow_settleToward (d : Client) : OwnFollow c s (s.settleToward d) :=
  (ownFollow_setMode _).trans (.of_plan rfl rfl)

theorem ownFollow_handOff : OwnFollow c s s.handOff := by
  rcases s.handOff_cases with ⟨_, e⟩ | ⟨d, w, _, ⟨_, _, e⟩ | ⟨g, _, _, e⟩ | ⟨_, e⟩⟩ <;> rw [e]
  · rcases s.park_cases with ⟨_, _, e⟩ | ⟨g, _, _, e⟩ | ⟨_, e⟩ <;> rw [e]
    · exact ownFollow_setMode _
    · exact ownFollow_setMode _
    · exact (ownFollow_setMode _).trans (.of_plan rfl rfl)
  · exact ownFollow_grant d
  · exact ownFollow_setMode _
  · exact ownFollow_settleToward d

theorem ownFollow_displacementCheck : OwnFollow c s s.displacementCheck := by
  rcases s.displacementCheck_cases with e | ⟨n, g, d, w, _, _, _, e⟩ <;> rw [e]
  · exact .of_plan rfl rfl
  · exact ownFollow_settleToward d

/-- A preemption cuts the holder's own claims alone (R102). -/
theorem ownFollow_preempt {h d : Client} (hc : h ≠ c) : OwnFollow c s (s.preempt h d) := by
  refine ⟨(s.preempt_keeps h d).clock, fun x hx ho => ⟨x, ?_, .refl _ x⟩⟩
  rw [State.preempt_plan]
  refine List.mem_filterMap.mpr ⟨x, hx, if_neg fun cut => hc ?_⟩
  exact cut.1.symm.trans ho

theorem OwnFollow.passZeroGuard (b : State) (h : OwnFollow c s t) : OwnFollow c s (b.passZeroGuard t) := by
  rcases b.passZeroGuard_cases t with e | ⟨_, _, _, e⟩ <;> rw [e]
  · exact h
  · refine h.trans ?_
    unfold State.endGuard
    split
    · exact ownFollow_grant _
    · exact ownFollow_setMode _
    · exact .of_plan rfl rfl

/-- The arrival of a claim cuts none of its client's (R95). -/
theorem ownFollow_claimArrived : OwnFollow c s (s.claimArrived c) := by
  unfold State.claimArrived
  refine .passZeroGuard s ?_
  split
  · exact ownFollow_handOff
  · exact ownFollow_handOff
  · split
    · exact .of_plan rfl rfl
    · exact ownFollow_displacementCheck
  · split
    · exact ownFollow_turnHolding c
    · rename_i h _ other
      rcases s.preemptionCheck_cases with e | ⟨h', d, w, held, _, _, _, e⟩ <;> rw [e]
      · exact .of_plan rfl rfl
      · refine ownFollow_preempt fun same => other ?_
        simp_all

end OwnFollow

/-! ### The client's entries fall due -/

/-- The entry numbers `ns` are the client's, and no two entries have one number (R58). -/
def State.ownNumbers (s : State) (c : Client) (ns : List Nat) : Prop :=
  numbersDiffer s.plan ∧ ∀ n ∈ ns, ∀ e ∈ s.plan, e.number = n → e.owner = c

section Wakes

variable {c : Client} {s t : State} {n : Nat} {ns : List Nat}

/-- The arbiter gives no entry another's number. -/
theorem arbiterClosed_numbers : ArbiterClosed fun s t => numbersDiffer s.plan → numbersDiffer t.plan where
  refl _ := id
  trans h k := k ∘ h
  setMode s m := by simp
  setPosition _ _ := id
  turnHolding s c h := h.map _ fun e => congrArg Prod.fst (Entry.grantTo_booking c s.clock e)
  cutHoldings s c h := by
    rw [s.cutHoldings_eq c]
    exact h.filterMap _ fun e y hy => congrArg Prod.fst (Entry.cutFor_booking c s.clock e y hy)
  countPreemption _ := id

theorem State.ownNumbers.wake (h : s.ownNumbers c ns) : (s.wake n).ownNumbers c ns := by
  refine ⟨?_, fun m hm y hy number => ?_⟩
  · rcases s.wake_cases n with e | ⟨e, _, _, _, ha⟩
    · rw [e]; exact h.1
    · rw [ha]
      refine arbiterClosed_numbers.claimArrived _ _ (h.1.filterMap _ fun e y hy => ?_)
      split at hy <;> cases hy <;> rfl
  · obtain ⟨x, hx, same⟩ := keeps_wake (W := fun _ => False) n .bookings id y hy
    simp only [Entry.booking, Prod.mk.injEq] at same
    obtain ⟨sameNumber, sameOwner, _⟩ := same
    exact sameOwner.trans (h.2 m hm x hx (sameNumber.symm.trans number))

theorem numbersDiffer.entryAt (h : numbersDiffer s.plan) {x : Entry} (hx : x ∈ s.plan) :
    s.entryAt x.number = some x := by
  cases he : s.entryAt x.number with
  | none => exact absurd (List.find?_eq_none.mp he x hx) (by simp)
  | some e =>
    obtain ⟨mem, number⟩ := State.entryAt_some he
    rw [h.eq_of_number mem hx number]

theorem State.wake_ready {e : Entry} (he : s.entryAt n = some e) (hr : e.ready s.clock) :
    s.wake n = (s.onEntry n fun x => some { x with status := .due }).claimArrived e.owner := by
  unfold State.wake
  simp only [he]
  exact if_pos hr

/-- The entry of a number falls due, and no other changes. -/
theorem State.onEntry_follows {e : Entry} (numbers : numbersDiffer s.plan) (he : s.entryAt n = some e)
    (hr : e.ready s.clock) {x : Entry} (hx : x ∈ s.plan) :
    ∃ y ∈ (s.onEntry n fun x => some { x with status := .due }).plan,
      x.Follows s.clock y ∧ (x.number = n → ¬ y.ready s.clock) := by
  obtain ⟨mem, number⟩ := State.entryAt_some he
  rw [State.onEntry_plan, onNumber_some]
  refine ⟨_, List.mem_map_of_mem hx, ?_⟩
  split
  · rename_i named
    obtain rfl := numbers.eq_of_number hx mem (named.trans number.symm)
    exact ⟨⟨rfl, .inr ⟨.inl hr, .inl rfl⟩⟩, fun _ => Entry.not_ready_of_status (.inl rfl)⟩
  · rename_i other
    exact ⟨.refl _ x, fun named => absurd named other⟩

/-- The client's entry of a number falls due, the others stay as they are, and then it is ready no more. -/
theorem State.wake_own (h : s.ownNumbers c ns) (hn : n ∈ ns) {x : Entry} (hx : x ∈ s.plan) (ho : x.owner = c) :
    ∃ y ∈ (s.wake n).plan, x.Follows s.clock y ∧ (x.number = n → ¬ y.ready s.clock) := by
  obtain ⟨numbers, own⟩ := h
  by_cases hr : ∃ e, s.entryAt n = some e ∧ e.ready s.clock
  · obtain ⟨e, he, ready⟩ := hr
    obtain ⟨mem, number⟩ := State.entryAt_some he
    obtain ⟨y, hy, follows, woken⟩ := State.onEntry_follows numbers he ready hx
    rw [State.wake_ready he ready, own n hn e mem number]
    obtain ⟨z, hz, later⟩ := ownFollow_claimArrived.2 y hy (follows.owner.trans ho)
    exact ⟨z, hz, follows.trans later, fun named => later.not_ready (woken named)⟩
  · have unchanged : s.wake n = s :=
      (s.wake_cases n).resolve_right fun ⟨e, he, scheduled, due, _⟩ => hr ⟨e, he, scheduled, due⟩
    rw [unchanged]
    exact ⟨x, hx, .refl _ x, fun named ready => hr ⟨x, named ▸ numbers.entryAt hx, ready⟩⟩

theorem State.wakeAll_own (ns' : List Nat) (h : s.ownNumbers c ns) (hn : ∀ n ∈ ns', n ∈ ns) {x : Entry}
    (hx : x ∈ s.plan) (ho : x.owner = c) :
    ∃ y ∈ (s.wakeAll ns').plan, x.Follows s.clock y ∧ (x.number ∈ ns' → ¬ y.ready s.clock) := by
  induction ns' generalizing s x with
  | nil => exact ⟨x, hx, .refl _ x, nofun⟩
  | cons n ns' ih =>
    obtain ⟨y, hy, follows, woken⟩ := State.wake_own h (hn n (by simp)) hx ho
    obtain ⟨z, hz, later, rest⟩ := ih h.wake (fun m hm => hn m (by simp [hm])) hy (follows.owner.trans ho)
    rw [(s.wake_keeps n).clock] at later rest
    refine ⟨z, hz, follows.trans later, fun named => ?_⟩
    rcases List.mem_cons.mp named with first | others
    · exact later.not_ready (woken first)
    · exact rest (follows.number ▸ others)

theorem State.wakeAll_keeps (s : State) (ns : List Nat) : ArbiterKeeps s (s.wakeAll ns) := by
  induction ns generalizing s with
  | nil => exact .refl s
  | cons n ns ih => exact (s.wake_keeps n).trans (ih _)

/-- Entries fall due, and no notice is taken away. -/
theorem State.wakeAll_notices {i : Nat} (d : Client) (h : (s.links.get d).notices.getLsbD i = true) :
    ((s.wakeAll ns).links.get d).notices.getLsbD i = true := by
  induction ns generalizing s with
  | nil => exact h
  | cons n ns ih =>
    refine ih ?_
    rcases s.wake_cases n with e | ⟨e, _, _, _, ha⟩
    · rwa [e]
    · rw [ha]
      exact arbiterClosed_notices.claimArrived _ _ d i h

end Wakes

/-! ### The client reopened -/

section Revival

variable {s : State} {c : Client} {e x : Entry}

/-- A periodic entry comes back at the first start past the present air time (R34). -/
theorem Entry.revive_periodic (hs : e.isSuspended = true) (hp : e.period ≠ 0) (now : AirTime) :
    e.revive now = some { e with
      start := after e.start (periodsPast now e.start e.period * e.period), status := .scheduled } := by
  obtain ⟨b, hb⟩ := e.isSuspended_iff.mp hs
  simp [Entry.revive, hb, hp]

/-- A one-shot whose window has passed does not come back (R34). -/
theorem Entry.revive_passed {now : AirTime} (hs : e.isSuspended = true) (hp : e.period = 0)
    (passed : e.status = .suspended true ∨ reached now e.windowEnd = true) : e.revive now = none := by
  obtain ⟨b, hb⟩ := e.isSuspended_iff.mp hs
  rw [hb, EntryStatus.suspended.injEq] at passed
  simp [Entry.revive, hb, hp, passed]

/-- Any other one-shot comes back at its start (R34). -/
theorem Entry.revive_open {now : AirTime} (hs : e.status = .suspended false) (hp : e.period = 0)
    (stands : reached now e.windowEnd = false) : e.revive now = some { e with status := .scheduled } := by
  simp [Entry.revive, hs, hp, stands]

theorem State.mem_reopened (he : e ∈ s.plan) (ho : e.owner = c) (hx : e.revive s.clock = some x) :
    x ∈ (s.reopened c).plan :=
  List.mem_filterMap.mpr ⟨e, he, (if_pos ho).trans hx⟩

theorem State.reopened_numbers (h : numbersDiffer s.plan) : numbersDiffer (s.reopened c).plan :=
  h.filterMap _ fun _ _ hy => (Entry.reopened_owner hy).1

theorem State.ownNumbers_numbersOf (h : numbersDiffer s.plan) : s.ownNumbers c (s.numbersOf c) := by
  refine ⟨h, fun n hn e he number => ?_⟩
  obtain ⟨d, hd, rfl⟩ := List.mem_map.mp hn
  obtain ⟨mem, owner⟩ := List.mem_filter.mp hd
  rw [h.eq_of_number he mem number]
  simpa using owner

theorem State.mem_numbersOf (hx : x ∈ s.plan) (ho : x.owner = c) : x.number ∈ s.numbersOf c :=
  List.mem_map_of_mem (List.mem_filter.mpr ⟨hx, by simp [ho]⟩)

/-- The client reopened and told, before its reached entries fall due (R34). -/
def State.reopenedTold (s : State) (c : Client) : State :=
  ((s.reopened c).giveNoticeIf (s.reviveRemoves c) c .ended).giveNotice c .restored

theorem State.reopenedTold_eq (s : State) (c : Client) :
    s.reopenedTold c = { s.reopened c with links := (s.reopenedTold c).links } := by
  unfold State.reopenedTold
  rw [State.giveNotice_eq, State.giveNoticeIf_eq]

theorem State.reviveClient_told (s : State) (c : Client) :
    s.reviveClient c = (s.reopenedTold c).wakeAll ((s.reopened c).numbersOf c) := s.reviveClient_eq c

theorem State.reopenedTold_plan (s : State) (c : Client) : (s.reopenedTold c).plan = (s.reopened c).plan := by
  rw [s.reopenedTold_eq c]

theorem State.reviveClient_sup (s : State) (c : Client) : (s.reviveClient c).sup = (s.reopened c).sup := by
  rw [s.reviveClient_told c, (State.wakeAll_keeps _ _).sup, s.reopenedTold_eq c]

/-- RESTORED is given, and ENDED where a one-shot went (R34). -/
theorem State.reviveClient_notices (s : State) (c : Client) :
    ((s.reviveClient c).links.get c).notices.getLsbD 5 = true ∧
      (s.reviveRemoves c = true → ((s.reviveClient c).links.get c).notices.getLsbD 1 = true) := by
  have opening : ((s.reopened c).sup.get c).state = .opening := by simp [State.reopened]
  rw [s.reviveClient_told c]
  constructor
  · refine State.wakeAll_notices c ?_
    unfold State.reopenedTold
    rw [State.giveNotice_bit, State.giveNoticeIf_eq]
    simp [opening, noticeBit]
  · intro removes
    refine State.wakeAll_notices c ?_
    unfold State.reopenedTold
    rw [removes, State.giveNotice_bit, State.giveNoticeIf, if_pos rfl, State.giveNotice_bit]
    simp [opening, noticeBit]

/-- A revived entry stands in the plan, its status apart, and is not left to fall due. -/
theorem State.reviveClient_revived (numbers : numbersDiffer s.plan) (he : e ∈ s.plan) (ho : e.owner = c)
    (hx : e.revive s.clock = some x) :
    ∃ y ∈ (s.reviveClient c).plan, x.Follows s.clock y ∧ ¬ y.ready s.clock := by
  have mem := State.mem_reopened he ho hx
  have owner : x.owner = c := (Entry.revive_owner hx).2.trans ho
  have own : (s.reopenedTold c).ownNumbers c ((s.reopened c).numbersOf c) := by
    unfold State.ownNumbers
    rw [s.reopenedTold_plan c]
    exact State.ownNumbers_numbersOf (State.reopened_numbers numbers)
  obtain ⟨y, hy, follows, woken⟩ :=
    State.wakeAll_own _ own (fun _ => id) (s.reopenedTold_plan c ▸ mem) owner
  have clock : (s.reopenedTold c).clock = s.clock := by rw [s.reopenedTold_eq c]; rfl
  rw [clock] at follows woken
  exact ⟨y, s.reviveClient_told c ▸ hy, follows, woken (State.mem_numbersOf mem owner)⟩

/-- An entry that does not come back leaves the plan, and its client is told (R34). -/
theorem State.reviveClient_removed (numbers : numbersDiffer s.plan) (he : e ∈ s.plan) (ho : e.owner = c)
    (hx : e.revive s.clock = none) :
    (∀ y ∈ (s.reviveClient c).plan, y.number ≠ e.number) ∧
      ((s.reviveClient c).links.get c).notices.getLsbD 1 = true := by
  constructor
  · intro y hy number
    rw [s.reviveClient_told c] at hy
    obtain ⟨x, hx', same⟩ := keeps_wakeAll (W := fun _ => False) _ .bookings id y hy
    rw [s.reopenedTold_plan c] at hx'
    obtain ⟨d, hd, revived⟩ := List.mem_filterMap.mp hx'
    have sameNumber : y.number = x.number := congrArg Prod.fst same
    have kept := (Entry.reopened_owner revived).1
    obtain rfl := numbers.eq_of_number hd he (kept.symm.trans (sameNumber.symm.trans number))
    rw [if_pos ho, hx] at revived
    cases revived
  · refine (s.reviveClient_notices c).2 (List.any_eq_true.mpr ⟨e, he, ?_⟩)
    simp [ho, hx]

theorem exec_revive {b : Byte} (high : s.resetn = true) (hb : clientOfIndex b.toNat = some c)
    (hc : (s.sup.get c).state = .silent) :
    exec (.revive b) s = .next { s.reviveClient c with port := (s.reviveClient c).port.wrote .ok [] } := by
  simp only [exec, execRevive, s.whenRunning_high _ high, hb, hc, if_true, State.finishWrite_eq]

theorem exec_revive_refused {b : Byte} (high : s.resetn = true)
    (hc : ∀ c, clientOfIndex b.toNat = some c → (s.sup.get c).state ≠ .silent) :
    exec (.revive b) s = .next { s with port := s.port.refused .range } := by
  simp only [exec, execRevive, s.whenRunning_high _ high, State.refuseWrite_eq]
  split
  · rfl
  · rename_i c hb
    rw [if_neg (hc c hb)]

end Revival

/-- Settles O16: the entries come back one by one, and what then falls due or is granted changes no more than their
status. -/
theorem reviveRestoresThePlan : Obligations.ReviveRestoresThePlan := by
  refine ⟨fun s c b high hb hc plan => ⟨_, exec_revive high hb hc, ?_⟩, fun s b => exec_revive_refused⟩
  have numbers : numbersDiffer s.plan := plan.1.imp Nat.ne_of_lt
  have reopened : (s.reviveClient c).sup.get c =
      { s.sup.get c with state := .opening, deadline := s.openingDeadline c } := by
    rw [s.reviveClient_sup c]
    exact PerClient.get_set_same _ _ _
  refine ⟨congrArg Supervision.state reopened, congrArg Supervision.deadline reopened, (s.reviveClient_notices c).1,
    rfl, rfl, fun e he ho hs hp => ?periodic, fun e he ho hs hp passed => ?passed, fun e he ho hs hp stands => ?stands⟩
  case periodic =>
    obtain ⟨_, _, _, period, _⟩ := plan.2.1 e he
    obtain ⟨lo, hi, _⟩ := period.resolve_left fun oneShot => hp oneShot.1
    obtain ⟨past, fewest⟩ := periodsPast_fewest s.clock e.start (by omega) hi
    obtain ⟨y, hy, follows, waits⟩ := State.reviveClient_revived numbers he ho (e.revive_periodic hs hp s.clock)
    have status := (follows.of_scheduled rfl waits).1 (reached_of_later past)
    rw [follows.1] at hy
    exact ⟨_, hy, rfl, status, rfl, rfl, _, rfl, past, fewest⟩
  case passed =>
    exact State.reviveClient_removed numbers he ho (Entry.revive_passed hs hp passed)
  case stands =>
    obtain ⟨y, hy, follows, waits⟩ := State.reviveClient_revived numbers he ho (Entry.revive_open hs hp stands)
    exact ⟨y, hy, follows.1, follows.of_scheduled rfl waits⟩

end Sys2Proof.Machine
end

section
/-!
# The flow table's family: the tables and their references under every step, and the statements about flows

Sections: what the tables' forms ask of single records, the updates that keep them, the rows, then the statements about
single rows.
-/

namespace Sys2Proof.Machine

/-! ## The forms of the tables -/

/-- The flow table and the plan in their forms, and the references between them (R42, R43, R58, R59, R60, R63). -/
def State.TablesOk (s : State) : Prop := s.flowTableOk ∧ s.planOk ∧ s.refsOk

/-- The tables' forms speak of flows, entries and live claims alone. -/
theorem State.tablesOk_congr {s t : State} (flows : t.flows = s.flows) (plan : t.plan = s.plan)
    (live : t.live = s.live) : t.TablesOk ↔ s.TablesOk := by
  have (u v : State) (flows : v.flows = u.flows) (plan : v.plan = u.plan) (live : v.live = u.live)
      (h : u.TablesOk) : v.TablesOk := by
    obtain ⟨hf, hp, hr⟩ := h
    refine ⟨?_, ?_, ?_⟩
    · simpa only [State.flowTableOk, State.flowCount, flows] using hf
    · simpa only [State.planOk, State.entryCount, State.totalLoad, plan] using hp
    · simpa only [State.refsOk, flows, plan, live] using hr
  exact ⟨this t s flows.symm plan.symm live.symm, this s t flows plan live⟩

section OffTheTables

variable (s : State) (c : Client)

@[simp] theorem State.tablesOk_onLink (f : Link → Link) : (s.onLink c f).TablesOk ↔ s.TablesOk := Iff.rfl

@[simp] theorem State.tablesOk_onSup (f : Supervision → Supervision) : (s.onSup c f).TablesOk ↔ s.TablesOk := Iff.rfl

@[simp] theorem State.tablesOk_setMode (m : ArbiterMode) : (s.setMode m).TablesOk ↔ s.TablesOk :=
  State.tablesOk_congr (by simp) (by simp) (by simp)

@[simp] theorem State.tablesOk_giveNotice (n : Notice) : (s.giveNotice c n).TablesOk ↔ s.TablesOk :=
  State.tablesOk_congr (by simp) (by simp) (by simp)

@[simp] theorem State.tablesOk_giveNoticeIf (p : Bool) (n : Notice) :
    (s.giveNoticeIf p c n).TablesOk ↔ s.TablesOk := by
  rw [s.giveNoticeIf_eq p c n]
  exact Iff.rfl

@[simp] theorem State.tablesOk_setPortNotice (n : PortNotice) : (s.setPortNotice n).TablesOk ↔ s.TablesOk := Iff.rfl

@[simp] theorem State.tablesOk_countMiss : s.countMiss.TablesOk ↔ s.TablesOk := Iff.rfl

@[simp] theorem State.tablesOk_countOverstay : s.countOverstay.TablesOk ↔ s.TablesOk := Iff.rfl

@[simp] theorem State.tablesOk_answer (r : Result) (d : Value) : (s.answer c r d).TablesOk ↔ s.TablesOk := Iff.rfl

@[simp] theorem State.tablesOk_refuse (r : Result) : (s.refuse c r).TablesOk ↔ s.TablesOk := Iff.rfl

@[simp] theorem State.tablesOk_recompute (note : Option ChannelNote) :
    (s.recompute note).TablesOk ↔ s.TablesOk := by
  rw [s.recompute_frame note]
  exact Iff.rfl

@[simp] theorem State.tablesOk_presence : (s.presence c).TablesOk ↔ s.TablesOk := by
  unfold State.presence
  split <;> exact Iff.rfl

@[simp] theorem State.tablesOk_rejectFrame : (s.rejectFrame c).TablesOk ↔ s.TablesOk := Iff.rfl

@[simp] theorem State.tablesOk_finishWrite (r : PortResult) (bs : List Byte) :
    (s.finishWrite r bs).TablesOk ↔ s.TablesOk := Iff.rfl

@[simp] theorem State.tablesOk_refuseWrite (r : PortResult) : (s.refuseWrite r).TablesOk ↔ s.TablesOk := Iff.rfl

@[simp] theorem State.tablesOk_read (bs : Option (List Byte)) : (s.read bs).TablesOk ↔ s.TablesOk := by
  cases bs <;> exact Iff.rfl

end OffTheTables

/-! ### Flow records -/

/-- A change of a flow record that only counts: the flow is the same, and its counters stay in range (R42, R53, R55). -/
def Flow.Counts (f : Flow → Flow) : Prop := ∀ x, (f x).key = x.key ∧ (x.inRange → (f x).inRange)

theorem raiseStreak_le (n : Nat) : raiseStreak n ≤ 15 := Nat.min_le_left _ _

theorem raise16_le (n : Nat) : raise16 n ≤ 65535 := Nat.min_le_left _ _

theorem Flow.counts_won : Flow.Counts Flow.won := fun _ =>
  ⟨rfl, fun ⟨slot, lo, hi, _, _, rest⟩ => ⟨slot, lo, hi, Nat.zero_le _, raise16_le _, rest⟩⟩

theorem Flow.counts_cut : Flow.Counts Flow.cut := fun _ =>
  ⟨rfl, fun ⟨slot, lo, hi, _, grants, served, missed, _, overstays⟩ =>
    ⟨slot, lo, hi, raiseStreak_le _, grants, served, missed, raise16_le _, overstays⟩⟩

theorem Flow.counts_missedOne : Flow.Counts Flow.missedOne := fun _ =>
  ⟨rfl, fun ⟨slot, lo, hi, _, grants, served, _, rest⟩ =>
    ⟨slot, lo, hi, raiseStreak_le _, grants, served, raise16_le _, rest⟩⟩

theorem Flow.counts_servedOne : Flow.Counts Flow.servedOne := fun _ =>
  ⟨rfl, fun ⟨slot, lo, hi, streak, grants, _, rest⟩ => ⟨slot, lo, hi, streak, grants, raise16_le _, rest⟩⟩

theorem Flow.counts_overstayed : Flow.Counts Flow.overstayed := fun _ =>
  ⟨rfl, fun ⟨slot, lo, hi, streak, grants, served, missed, cuts, _⟩ =>
    ⟨slot, lo, hi, streak, grants, served, missed, cuts, raise16_le _⟩⟩

theorem Flow.counts_aged : Flow.Counts Flow.aged := fun _ =>
  ⟨rfl, fun ⟨slot, lo, hi, _, rest⟩ => ⟨slot, lo, hi, raiseStreak_le _, rest⟩⟩

/-- In two tables of the same keys each record of one has its like in the other. -/
theorem mem_of_same_keys {fs gs : List Flow} (h : fs.map Flow.key = gs.map Flow.key) {f : Flow} (hf : f ∈ fs) :
    ∃ g ∈ gs, g.slot = f.slot ∧ g.owner = f.owner ∧ g.handle = f.handle := by
  have mem : f.key ∈ gs.map Flow.key := h ▸ List.mem_map_of_mem hf
  obtain ⟨g, hg, same⟩ := List.mem_map.mp mem
  simp only [Flow.key, Prod.mk.injEq] at same
  exact ⟨g, hg, same⟩

/-- The form of the flow table asks for its keys' form and for every record's range. -/
theorem State.flowTableOk_of_keys {s t : State} (h : s.flowTableOk)
    (keys : t.flows.map Flow.key = s.flows.map Flow.key) (range : ∀ f ∈ t.flows, f.inRange) : t.flowTableOk := by
  obtain ⟨slots, _, handles, count⟩ := h
  refine ⟨?_, range, fun f hf g hg owner handle => ?_, fun c => ?_⟩
  · exact (slotsRise_iff_keys t.flows).mpr (keys ▸ (slotsRise_iff_keys s.flows).mp slots)
  · obtain ⟨f', hf', fslot, fowner, fhandle⟩ := mem_of_same_keys keys hf
    obtain ⟨g', hg', gslot, gowner, ghandle⟩ := mem_of_same_keys keys hg
    rw [← fslot, ← gslot]
    exact handles f' hf' g' hg' (by rw [fowner, gowner, owner]) (by rw [fhandle, ghandle, handle])
  · have owned (u : State) : u.flowCount c = (u.flows.map Flow.key).countP (·.2.1 == c) := by
      rw [List.countP_map]
      rfl
    rw [owned t, keys, ← owned s]
    exact count c

/-! ### Plan entries -/

/-- `y` is the entry `e` in its booking, with its count as it was or lowered by an occurrence that was not its last
(R58, R73). -/
def Entry.Continues (e y : Entry) : Prop :=
  y.booking = e.booking ∧ (y.count = e.count ∨ e.count ≠ 1 ∧ y.count = e.count - 1)

theorem Entry.Continues.number {e y : Entry} (h : e.Continues y) : y.number = e.number := congrArg Prod.fst h.1

/-- A booking in range stays so whatever its occurrences do: a one-shot has one occurrence only (R62, R73). -/
theorem Entry.Continues.inRange {e y : Entry} (h : e.Continues y) (he : e.inRange) : y.inRange := by
  obtain ⟨booking, count⟩ := h
  simp only [Entry.booking, Prod.mk.injEq] at booking
  obtain ⟨number, _, _, duration, period, slide, load⟩ := booking
  unfold Entry.inRange at *
  rw [number, duration, period, slide, load]
  omega

theorem Entry.continues_of_count {e y : Entry} (booking : y.booking = e.booking) (count : y.count = e.count) :
    e.Continues y := ⟨booking, .inl count⟩

theorem Entry.continues_advance {now : AirTime} {e y : Entry} (h : e.advance now = some y) : e.Continues y := by
  refine ⟨Entry.advance_booking now e y h, .inr ?_⟩
  unfold Entry.advance at h
  split at h
  · cases h
  · rename_i more
    cases h
    exact ⟨more, rfl⟩

theorem Entry.continues_grantTo (c : Client) (now : AirTime) (e : Entry) : e.Continues (e.grantTo c now) := by
  refine Entry.continues_of_count (e.grantTo_booking c now) ?_
  unfold Entry.grantTo
  split <;> rfl

theorem Entry.continues_cutFor {c : Client} {now : AirTime} {e y : Entry} (h : e.cutFor c now = some y) :
    e.Continues y := by
  refine ⟨Entry.cutFor_booking c now e y h, ?_⟩
  rw [Entry.cutFor_eq] at h
  split at h
  · split at h
    · cases h
    · rename_i more
      cases h
      exact .inr ⟨more, rfl⟩
  · cases h
    exact .inl rfl

theorem Entry.continues_suspend (now : AirTime) (e : Entry) : e.Continues (e.suspend now) := by
  refine Entry.continues_of_count (e.suspend_booking now) ?_
  unfold Entry.suspend
  split <;> rfl

theorem Entry.continues_revive {now : AirTime} {e y : Entry} (h : e.revive now = some y) : e.Continues y := by
  refine Entry.continues_of_count (Entry.revive_booking now e y h) ?_
  unfold Entry.revive at h
  split at h
  · split at h
    · split at h <;> cases h
      rfl
    · cases h; rfl
  · cases h; rfl

/-- Entries that stand for some of a plan's bookings, in their order, and in range, are a plan in its form. -/
theorem State.planOk_of_bookings {s t : State} (h : s.planOk)
    (sub : (t.plan.map Entry.booking).Sublist (s.plan.map Entry.booking)) (range : ∀ e ∈ t.plan, e.inRange) :
    t.planOk := by
  obtain ⟨numbers, _, count, load⟩ := h
  have owned (u : State) (c : Client) : u.entryCount c = (u.plan.map Entry.booking).countP (·.2.1 == c) := by
    rw [List.countP_map]
    rfl
  have total (u : State) : u.totalLoad = ((u.plan.map Entry.booking).map (·.2.2.2.2.2.2)).sum := by
    rw [List.map_map]
    rfl
  refine ⟨?_, range, fun c => ?_, ?_⟩
  · have rises (es : List Entry) := List.pairwise_map (l := es) (f := Entry.booking) (R := fun a b => a.1 < b.1)
    exact (rises t.plan).mp (((rises s.plan).mpr numbers).sublist sub)
  · rw [owned]
    exact (sub.countP_le (p := fun b => b.2.1 == c)).trans (owned s c ▸ count c)
  · rw [total]
    exact ((sub.map (fun b => b.2.2.2.2.2.2)).sum_le_sum fun _ _ => Nat.zero_le _).trans (total s ▸ load)

theorem bookings_filterMap_sublist (f : Entry → Option Entry) (hf : ∀ e y, f e = some y → e.Continues y)
    (es : List Entry) : ((es.filterMap f).map Entry.booking).Sublist (es.map Entry.booking) := by
  induction es with
  | nil => exact List.Sublist.refl _
  | cons e es ih =>
    rw [List.filterMap_cons]
    split
    · exact ih.cons _
    · rename_i y hy
      rw [List.map_cons, List.map_cons, (hf e y hy).1]
      exact ih.cons_cons _

end Sys2Proof.Machine
end

section
namespace Sys2Proof.Machine

/-! ## What keeps the tables -/

section Keeps

variable {s t : State}

/-! ### One rule for each table -/

theorem State.TablesOk.setFlows (h : s.TablesOk) {fs : List Flow} (keys : fs.map Flow.key = s.flows.map Flow.key)
    (range : ∀ f ∈ fs, f.inRange) : State.TablesOk { s with flows := fs } := by
  obtain ⟨flows, plan, entries, claims⟩ := h
  have found {k : Nat} {c : Client} (old : ∃ f ∈ s.flows, f.slot = k ∧ f.owner = c) :
      ∃ f ∈ fs, f.slot = k ∧ f.owner = c := by
    obtain ⟨f, hf, slot, owner⟩ := old
    obtain ⟨g, hg, gslot, gowner, _⟩ := mem_of_same_keys keys.symm hf
    exact ⟨g, hg, gslot.trans slot, gowner.trans owner⟩
  exact ⟨State.flowTableOk_of_keys flows keys range, plan, fun e he => found (entries e he),
    fun c => ⟨(claims c).1, fun k hk => found ((claims c).2 k hk)⟩⟩

theorem State.TablesOk.onFlow (h : s.TablesOk) (k : Nat) {f : Flow → Flow} (hf : Flow.Counts f) :
    (s.onFlow k f).TablesOk := by
  refine h.setFlows (onSlot_keys k f s.flows fun x _ _ => (hf x).1) fun g hg => ?_
  obtain ⟨x, hx, rfl⟩ := List.mem_map.mp hg
  have range := h.1.2.1 x hx
  split
  · exact (hf x).2 range
  · exact range

theorem State.TablesOk.foldFlows (h : s.TablesOk) {f : Flow → Flow} (hf : Flow.Counts f) (ks : List Nat) :
    State.TablesOk { s with flows := ks.foldl (fun fs k => onSlot k f fs) s.flows } := by
  induction ks generalizing s with
  | nil => exact h
  | cons k ks ih => exact ih (h.onFlow k hf)

/-- Entries changed or removed one by one, each carrying on what it was. -/
theorem State.TablesOk.filterMapPlan (h : s.TablesOk) {f : Entry → Option Entry}
    (hf : ∀ e y, f e = some y → e.Continues y) : State.TablesOk { s with plan := s.plan.filterMap f } := by
  obtain ⟨flows, plan, entries, claims⟩ := h
  refine ⟨flows, State.planOk_of_bookings plan (bookings_filterMap_sublist f hf s.plan) fun y hy => ?_,
    fun y hy => ?_, claims⟩ <;> obtain ⟨e, he, hey⟩ := List.mem_filterMap.mp hy
  · exact (hf e y hey).inRange (plan.2.1 e he)
  · have same := (hf e y hey).1
    simp only [Entry.booking, Prod.mk.injEq] at same
    obtain ⟨_, owner, flow, _⟩ := same
    rw [owner, flow]
    exact entries e he

theorem State.TablesOk.mapPlan (h : s.TablesOk) {f : Entry → Entry} (hf : ∀ e : Entry, e.Continues (f e)) :
    State.TablesOk { s with plan := s.plan.map f } := by
  have mapped := h.filterMapPlan (f := fun e => some (f e)) fun e y hy => by cases hy; exact hf e
  rwa [List.filterMap_eq_map'] at mapped

theorem State.TablesOk.onEntry (h : s.TablesOk) (n : Nat) {f : Entry → Option Entry}
    (hf : ∀ e y, f e = some y → e.Continues y) : (s.onEntry n f).TablesOk := by
  refine h.filterMapPlan fun e y hy => ?_
  split at hy
  · exact hf e y hy
  · cases hy
    exact Entry.continues_of_count rfl rfl

/-- A live claim changed into one that is bound unless IDLE, and to a flow of its client (R52, R112). -/
theorem State.TablesOk.onLive (h : s.TablesOk) (c : Client) {f : LiveClaim → LiveClaim}
    (claims : (f (s.live.get c)).state ≠ .idle → (f (s.live.get c)).binding ≠ none)
    (bound : ∀ k, (f (s.live.get c)).binding = some k → ∃ g ∈ s.flows, g.slot = k ∧ g.owner = c) :
    (s.onLive c f).TablesOk := by
  obtain ⟨flows, plan, entries, old⟩ := h
  refine ⟨flows, plan, entries, fun d => ?_⟩
  by_cases hd : d = c
  · subst hd
    rw [State.onLive_live, PerClient.get_set_same]
    exact ⟨claims, bound⟩
  · rw [State.onLive_live, PerClient.get_set_other _ _ _ _ hd]
    exact old d

/-- A live claim whose binding stays, and which stays IDLE where it was and has no binding. -/
theorem State.TablesOk.onLive_bound (h : s.TablesOk) (c : Client) {f : LiveClaim → LiveClaim}
    (binding : ∀ l, (f l).binding = l.binding)
    (claims : (f (s.live.get c)).state ≠ .idle →
      (s.live.get c).state ≠ .idle ∨ (s.live.get c).binding ≠ none) : (s.onLive c f).TablesOk := by
  obtain ⟨old, bound⟩ := h.2.2.2 c
  refine h.onLive c (fun busy => ?_) fun k hk => bound k (binding _ ▸ hk)
  rw [binding]
  exact (claims busy).elim old id

/-- Flows taken away with every entry that names them, and every live claim that is bound to them unbound. -/
theorem State.TablesOk.restrict (h : s.TablesOk) (p : Flow → Bool) (q : Entry → Bool) {x : PerClient LiveClaim}
    (entries : ∀ f ∈ s.flows, ∀ e ∈ s.plan, q e = true → f.slot = e.flow → f.owner = e.owner → p f = true)
    (live : ∀ c, x.get c = (s.live.get c).unbound ∨ x.get c = s.live.get c ∧
      ∀ f ∈ s.flows, f.owner = c → (s.live.get c).binding = some f.slot → p f = true) :
    State.TablesOk { s with flows := s.flows.filter p, plan := s.plan.filter q, live := x } := by
  obtain ⟨⟨slots, range, handles, flowCount⟩, plan, owned, old⟩ := h
  have mem {f : Flow} (hf : f ∈ s.flows.filter p) : f ∈ s.flows := List.mem_of_mem_filter hf
  refine ⟨⟨slots.filter p, fun f hf => range f (mem hf), fun f hf g hg => handles f (mem hf) g (mem hg),
    fun c => (List.filter_sublist.countP_le).trans (flowCount c)⟩,
    State.planOk_of_bookings plan (List.filter_sublist.map _) fun e he => plan.2.1 e (List.mem_of_mem_filter he),
    fun e he => ?_, fun c => ?_⟩
  · obtain ⟨he, hq⟩ := List.mem_filter.mp he
    obtain ⟨f, hf, slot, owner⟩ := owned e he
    exact ⟨f, List.mem_filter.mpr ⟨hf, entries f hf e he hq slot owner⟩, slot, owner⟩
  · dsimp only
    rcases live c with unbound | ⟨same, kept⟩
    · rw [unbound]
      exact ⟨fun busy => absurd rfl busy, nofun⟩
    · rw [same]
      refine ⟨(old c).1, fun k hk => ?_⟩
      obtain ⟨f, hf, slot, owner⟩ := (old c).2 k hk
      exact ⟨f, List.mem_filter.mpr ⟨hf, kept f hf owner (slot ▸ hk)⟩, slot, owner⟩

/-- With the tables empty and no live claim bound there is nothing to keep. -/
theorem State.TablesOk.of_empty (flows : t.flows = []) (plan : t.plan = [])
    (idle : ∀ c, (t.live.get c).state = .idle) (binding : ∀ c, (t.live.get c).binding = none) : t.TablesOk := by
  simp [State.TablesOk, State.flowTableOk, State.planOk, State.refsOk, State.flowCount, State.entryCount,
    State.totalLoad, loadOf, flows, plan, idle, binding]

/-! ### New records -/

theorem insertFlow_perm (x : Flow) (fs : List Flow) : (insertFlow x fs).Perm (x :: fs) := by
  induction fs with
  | nil => exact .refl _
  | cons y ys ih =>
    unfold insertFlow
    split
    · exact .refl _
    · exact (ih.cons y).trans (.swap x y ys)

theorem insertEntry_perm (x : Entry) (es : List Entry) : (insertEntry x es).Perm (x :: es) := by
  induction es with
  | nil => exact .refl _
  | cons y ys ih =>
    unfold insertEntry
    split
    · exact .refl _
    · exact (ih.cons y).trans (.swap x y ys)

/-- The numbers of a plan rise still when an entry of a free number takes its place among them (R58, R59). -/
theorem pairwise_insertEntry (x : Entry) {es : List Entry} (h : es.Pairwise fun a b => a.number < b.number)
    (hx : ∀ e ∈ es, e.number ≠ x.number) : (insertEntry x es).Pairwise fun a b => a.number < b.number := by
  induction es with
  | nil => exact List.pairwise_singleton _ _
  | cons y ys ih =>
    obtain ⟨hy, hys⟩ := List.pairwise_cons.mp h
    have differ := hx y (by simp)
    unfold insertEntry
    split
    · rename_i below
      refine List.pairwise_cons.mpr ⟨fun z hz => ?_, h⟩
      rcases List.mem_cons.mp hz with rfl | hz
      · exact below
      · exact below.trans (hy z hz)
    · refine List.pairwise_cons.mpr ⟨fun z hz => ?_, ih hys fun e he => hx e (by simp [he])⟩
      rcases (mem_insertEntry x z ys).mp hz with rfl | hz
      · omega
      · exact hy z hz

/-- A record in range takes a free slot, for an owner with room and no flow of its handle (R43, R44). -/
theorem State.TablesOk.insertFlow (h : s.TablesOk) {x : Flow} (range : x.inRange)
    (slot : ∀ f ∈ s.flows, f.slot ≠ x.slot) (handle : ∀ f ∈ s.flows, f.owner = x.owner → f.handle ≠ x.handle)
    (room : s.flowCount x.owner < 12) : State.TablesOk { s with flows := insertFlow x s.flows } := by
  obtain ⟨⟨slots, ranges, handles, flowCount⟩, plan, owned, claims⟩ := h
  have mem (f : Flow) := mem_insertFlow x f s.flows
  have found {k : Nat} {c : Client} (old : ∃ f ∈ s.flows, f.slot = k ∧ f.owner = c) :
      ∃ f ∈ Machine.insertFlow x s.flows, f.slot = k ∧ f.owner = c := by
    obtain ⟨f, hf, same⟩ := old
    exact ⟨f, (mem f).mpr (.inr hf), same⟩
  refine ⟨⟨slotsRise_insertFlow x slots slot, fun f hf => ?_, fun f hf g hg owner same => ?_, fun c => ?_⟩, plan,
    fun e he => found (owned e he), fun c => ⟨(claims c).1, fun k hk => found ((claims c).2 k hk)⟩⟩
  · rcases (mem f).mp hf with rfl | hf
    · exact range
    · exact ranges f hf
  · rcases (mem f).mp hf with rfl | oldf <;> rcases (mem g).mp hg with rfl | oldg
    · rfl
    · exact absurd same.symm (handle g oldg owner.symm)
    · exact absurd same (handle f oldf owner)
    · exact handles f oldf g oldg owner same
  · have counted : (Machine.insertFlow x s.flows).countP (·.owner == c) =
        s.flowCount c + if x.owner == c then 1 else 0 := by
      rw [(insertFlow_perm x s.flows).countP_eq, List.countP_cons]
      rfl
    refine counted.le.trans ?_
    split
    · rename_i own
      obtain rfl := beq_iff_eq.mp own
      exact room
    · exact flowCount c

/-- An entry in range takes a free number, for an owner with room who has its flow, where the whole of the air has room
for its load (R59, R65, R66). -/
theorem State.TablesOk.insertEntry (h : s.TablesOk) {x : Entry} (range : x.inRange)
    (number : ∀ e ∈ s.plan, e.number ≠ x.number) (flow : ∃ f ∈ s.flows, f.slot = x.flow ∧ f.owner = x.owner)
    (room : s.entryCount x.owner < 16) (load : s.totalLoad + x.load ≤ 1024) :
    State.TablesOk { s with plan := insertEntry x s.plan } := by
  obtain ⟨flows, ⟨numbers, ranges, entryCount, _⟩, owned, claims⟩ := h
  have perm := insertEntry_perm x s.plan
  refine ⟨flows, ⟨pairwise_insertEntry x numbers number, fun e he => ?_, fun c => ?_, ?_⟩, fun e he => ?_, claims⟩
  · rcases (mem_insertEntry x e s.plan).mp he with rfl | he
    · exact range
    · exact ranges e he
  · have counted : (Machine.insertEntry x s.plan).countP (·.owner == c) =
        s.entryCount c + if x.owner == c then 1 else 0 := by
      rw [perm.countP_eq, List.countP_cons]
      rfl
    refine counted.le.trans ?_
    split
    · rename_i own
      obtain rfl := beq_iff_eq.mp own
      exact room
    · exact entryCount c
  · have summed : loadOf (Machine.insertEntry x s.plan) = x.load + s.totalLoad := (perm.map Entry.load).sum_eq
    exact summed.le.trans (by omega)
  · rcases (mem_insertEntry x e s.plan).mp he with rfl | he
    · exact flow
    · exact owned e he

/-! ### The arbiter -/

theorem State.TablesOk.turnHolding (h : s.TablesOk) (c : Client) : (s.turnHolding c).TablesOk := by
  have flows := h.foldFlows Flow.counts_won (s.waitingSlots c)
  have plan := flows.mapPlan fun e => e.continues_grantTo c s.clock
  refine plan.onLive_bound c (f := s.grantLive) (fun l => (s.grantLive_keeps l).2.2) fun busy => .inl fun idle => ?_
  exact busy (by rw [s.grantLive_idle idle]; exact idle)

theorem State.TablesOk.cutHoldings (h : s.TablesOk) (c : Client) : (s.cutHoldings c).TablesOk := by
  have flows := h.foldFlows Flow.counts_cut (s.holdingSlots c)
  have plan := flows.filterMapPlan fun e y => Entry.continues_cutFor (c := c) (now := s.clock) (e := e) (y := y)
  have live := plan.onLive_bound c (f := s.cutLive) (fun l => (s.cutLive_keeps l).2.2) fun busy =>
    .inl fun idle => busy (by rw [s.cutLive_idle idle]; exact idle)
  exact (State.tablesOk_giveNoticeIf _ c _ .ended).mpr ((State.tablesOk_giveNotice _ c .cut).mpr live)

/-- Whatever the arbiter does keeps the tables and their references. -/
theorem arbiterClosed_tablesOk : ArbiterClosed fun s t => s.TablesOk → t.TablesOk where
  refl _ := id
  trans h k := k ∘ h
  setMode s m := (s.tablesOk_setMode m).mpr
  setPosition _ _ := id
  turnHolding _ c h := h.turnHolding c
  cutHoldings _ c h := h.cutHoldings c
  countPreemption _ := id

theorem State.TablesOk.stateCheck (h : s.TablesOk) : s.stateCheck.TablesOk := arbiterClosed_tablesOk.stateCheck s h

theorem State.TablesOk.stateCheckIf (h : s.TablesOk) (p : Bool) : (s.stateCheckIf p).TablesOk :=
  arbiterClosed_tablesOk.stateCheckIf s p h

theorem State.TablesOk.claimArrived (h : s.TablesOk) (c : Client) : (s.claimArrived c).TablesOk :=
  arbiterClosed_tablesOk.claimArrived s c h

theorem State.TablesOk.claimsLeft (h : s.TablesOk) (b : State) (c : Client) : (b.claimsLeft s c).TablesOk :=
  arbiterClosed_tablesOk.claimsLeft b s c h

end Keeps
end Sys2Proof.Machine
end

section
namespace Sys2Proof.Machine

/-! ## What the rows do to the tables -/

section Acts

variable {s t : State} {c : Client}

/-! ### Entries -/

theorem State.TablesOk.wake (h : s.TablesOk) (n : Nat) : (s.wake n).TablesOk := by
  rcases s.wake_cases n with e | ⟨e, _, _, _, ha⟩
  · rw [e]; exact h
  · rw [ha]
    refine State.TablesOk.claimArrived (h.onEntry n fun e y hy => ?_) _
    cases hy
    exact Entry.continues_of_count rfl rfl

theorem State.TablesOk.wakeAll (h : s.TablesOk) (ns : List Nat) : (s.wakeAll ns).TablesOk := by
  induction ns generalizing s with
  | nil => exact h
  | cons n ns ih => exact ih (h.wake n)

theorem State.TablesOk.removeEntry (h : s.TablesOk) (e : Entry) (ended : Bool) : (s.removeEntry e ended).TablesOk := by
  have gone : ((s.onEntry e.number fun _ => none).giveNoticeIf ended e.owner .ended).TablesOk :=
    (State.tablesOk_giveNoticeIf _ _ _ _).mpr (h.onEntry _ nofun)
  unfold State.removeEntry State.afterRemoval
  split
  · exact gone.claimsLeft _ _
  · exact gone

theorem State.TablesOk.advanceEntry (h : s.TablesOk) (e : Entry) : (s.advanceEntry e).TablesOk :=
  (State.tablesOk_giveNoticeIf _ _ _ _).mpr (h.onEntry _ fun _ _ => Entry.continues_advance)

theorem State.TablesOk.missOccurrence (h : s.TablesOk) (e : Entry) : (s.missOccurrence e).TablesOk := by
  have missed : (((s.onFlow e.flow Flow.missedOne).countMiss).giveNotice e.owner .missed).TablesOk := by
    simpa using h.onFlow e.flow Flow.counts_missedOne
  exact (((missed.advanceEntry e).claimsLeft _ _).stateCheckIf _).wake _

theorem State.TablesOk.serveOccurrence (h : s.TablesOk) (e : Entry) : (s.serveOccurrence e).TablesOk :=
  (((h.onFlow e.flow Flow.counts_servedOne).advanceEntry e).wake _).claimsLeft _ _

theorem State.TablesOk.retimeEntry (h : s.TablesOk) (e : Entry) (o : BitVec 13) : (s.retimeEntry e o).TablesOk := by
  have moved (f : Entry → Entry) (hf : ∀ y : Entry, y.Continues (f y)) :
      (s.onEntry e.number fun y => some (f y)).TablesOk := h.onEntry _ fun y z hz => by cases hz; exact hf y
  unfold State.retimeEntry
  split
  · refine State.TablesOk.wake ?_ _
    exact moved (fun y => { y with start := clampReached s.clock (offsetBy y.start o) }) fun y => ⟨rfl, .inl rfl⟩
  · exact h
  · exact moved (fun y => { y with pendingOffset := some o }) fun y => ⟨rfl, .inl rfl⟩

/-! ### Bookings -/

theorem shapeOk_iff (g d p k : Nat) : shapeOk g d p k = true ↔
    50 ≤ d ∧ d ≤ 20000 ∧ (p = 0 ∨ 1000 ≤ p ∧ p ≤ 1000000) ∧ k ≤ 65535 ∧ (p = 0 ∨ d + g ≤ p) := by
  simp [shapeOk, and_assoc]

theorem slideLimit_le (g d p : Nat) : slideLimit g d p ≤ 100000 ∧ (p ≠ 0 → slideLimit g d p ≤ p - d - g) := by
  unfold slideLimit
  split <;> omega

/-- A draft that passes the shape step books an entry in range (R62, R63). -/
theorem postedEntry_inRange {n : Nat} {c : Client} {k : Nat} {d : Draft} {slide g : Nat} {start : AirTime}
    (number : n < 32) (shape : shapeOk g d.duration.toNat d.period.toNat d.count.toNat = true)
    (hs : slide ≤ slideLimit g d.duration.toNat d.period.toNat) : (postedEntry n c k d slide start).inRange := by
  obtain ⟨lo, hi, period, count, apart⟩ := (shapeOk_iff _ _ _ _).mp shape
  obtain ⟨most, within⟩ := slideLimit_le g d.duration.toNat d.period.toNat
  refine ⟨number, lo, hi, ?_, ?_, hs.trans most, rfl⟩ <;> simp only [postedEntry]
  · by_cases oneShot : d.period.toNat = 0
    · exact .inl ⟨oneShot, if_pos oneShot⟩
    · have := within oneShot
      omega
  · split <;> omega

theorem State.freeEntry_lt {s : State} {n : Nat} (h : s.freeEntry = some n) : n < 32 := by
  simpa [Config.planEntries] using List.mem_of_find?_eq_some h

theorem State.TablesOk.postDraft (h : s.TablesOk) {f : Flow} (hf : f ∈ s.flows) (owner : f.owner = c) (d : Draft) :
    (s.postDraft c f d).TablesOk := by
  unfold State.postDraft
  split
  · exact h
  · rename_i shape
    split
    · exact h
    · rename_i room
      split
      · exact h
      · rename_i n hn
        split
        · exact h
        · split
          · rename_i start _ _ admits
            obtain ⟨_, _, load⟩ := (s.loadAdmits_iff _ _).mp admits
            refine State.TablesOk.wake (h.insertEntry (x := postedEntry n c f.slot d (s.trimmedSlide d) start) ?_
              (State.freeEntry_free hn) ⟨f, hf, rfl, owner⟩ (Nat.lt_of_not_le room) load) _
            exact postedEntry_inRange (State.freeEntry_lt hn) (by simpa using shape) (Nat.min_le_right _ _)
          · exact h

/-! ### Flows and classes -/

theorem State.freeSlot_lt {s : State} {k : Nat} (h : s.freeSlot = some k) : k < 24 := by
  simpa [Config.flowSlots] using List.mem_of_find?_eq_some h

/-- A client has no flow of a handle that names none (R42). -/
theorem State.flowNamed_none {s : State} {c : Client} {k : Nat} (h : s.flowNamed c k = none) :
    ∀ f ∈ s.flows, f.owner = c → f.handle ≠ k := by
  simpa [State.flowNamed] using h

theorem State.TablesOk.openFlow (h : s.TablesOk) (c : Client) (handle : Nat) : (s.openFlow c handle).TablesOk := by
  unfold State.openFlow
  split
  · exact h
  · rename_i named
    split
    · exact h
    · rename_i k _
      split
      · exact h
      · rename_i unused
        split
        · exact h
        · rename_i room
          split
          · exact h
          · rename_i slot hslot
            have range : (newFlow slot c handle k).inRange := by
              have := State.freeSlot_lt hslot
              simp only [Flow.inRange, newFlow]
              omega
            exact h.insertFlow range (State.freeSlot_free hslot)
              (State.flowNamed_none (Option.not_isSome_iff_eq_none.mp unused)) (Nat.lt_of_not_le room)

theorem State.TablesOk.closeFlow (h : s.TablesOk) {f : Flow} (hf : f ∈ s.flows) : (s.closeFlow f).TablesOk := by
  have gone : (s.closed f).TablesOk := by
    refine h.restrict (fun g => g.slot != f.slot) (fun e => e.flow != f.slot) (x := (s.closed f).live)
      (fun g _ e _ other slot _ => by simpa [slot] using other) fun c => ?_
    by_cases bound : c = f.owner ∧ (s.live.get f.owner).binding = some f.slot
    · obtain ⟨rfl, bound⟩ := bound
      unfold State.closed
      dsimp only
      rw [if_pos bound]
      exact .inl (PerClient.get_set_same _ _ _)
    · refine .inr ⟨?_, fun g hg owner hb => bne_iff_ne.mpr fun slot => bound ?_⟩
      · unfold State.closed
        dsimp only
        split
        · rename_i own
          exact PerClient.get_set_other _ _ _ _ fun same => bound ⟨same, own⟩
        · rfl
      · obtain rfl := slotsRise.eq_of_slot h.1.1 hg hf slot
        exact ⟨owner.symm, owner ▸ hb⟩
  rw [State.closeFlow_eq]
  split
  · exact gone.claimsLeft _ _
  · exact gone

theorem State.TablesOk.onBoundFlow (h : s.TablesOk) (c : Client) {f : Flow → Flow} (hf : Flow.Counts f) :
    (s.onBoundFlow c f).TablesOk := by
  unfold State.onBoundFlow
  split
  · exact h
  · exact h.onFlow _ hf

theorem State.TablesOk.expireHold (h : s.TablesOk) (hc : (s.live.get c).state ≠ .idle) :
    (s.expireHold c).TablesOk := by
  have spent := h.onLive_bound c (f := fun l => { l with state := .spent }) (fun _ => rfl) fun _ => .inl hc
  refine State.TablesOk.claimsLeft ?_ _ _
  simpa using spent.onBoundFlow c Flow.counts_overstayed

theorem State.TablesOk.refreshHold (h : s.TablesOk) (c : Client) : (s.refreshHold c).TablesOk := by
  unfold State.refreshHold
  split
  · rename_i u start d k holding _
    have refreshed := h.onLive_bound c
      (f := fun l => { l with state := .holding u start (after start (s.holdLimitOf k)) }) (fun _ => rfl)
      fun _ => .inl (by simp [holding])
    dsimp only
    split
    · exact refreshed.expireHold (by simp)
    · exact refreshed
  · exact h

theorem State.TablesOk.refreshHoldOfClass (h : s.TablesOk) (k : FlowClass) (c : Client) :
    (s.refreshHoldOfClass k c).TablesOk := by
  unfold State.refreshHoldOfClass
  split
  · exact h
  · split
    · exact h
    · split
      · exact h.refreshHold c
      · exact h

theorem State.TablesOk.refreshHolds (h : s.TablesOk) (k : FlowClass) : (s.refreshHolds k).TablesOk :=
  ((h.refreshHoldOfClass k .nr).refreshHoldOfClass k .sr).refreshHoldOfClass k .ar

/-- A record replaced by one of the same key, in range as it was. -/
theorem State.TablesOk.reclassed (h : s.TablesOk) {f g : Flow} (hf : f ∈ s.flows) (key : g.key = f.key)
    (range : f.inRange → g.inRange) : (s.reclassed f g).TablesOk := by
  have record : (s.onFlow f.slot fun _ => g).TablesOk := by
    refine h.setFlows (onSlot_keys _ _ _ fun x hx slot => ?_) fun y hy => ?_
    · rw [slotsRise.eq_of_slot h.1.1 hx hf slot, key]
    · obtain ⟨x, hx, rfl⟩ := List.mem_map.mp hy
      split
      · exact range (h.1.2.1 f hf)
      · exact h.1.2.1 x hx
  unfold State.reclassed State.classChanged
  split
  · exact record
  · split
    · exact (record.refreshHold _).stateCheck
    · exact record.stateCheck

theorem State.TablesOk.setPin (h : s.TablesOk) {f : Flow} (hf : f ∈ s.flows) (p : Option FlowClass) :
    (s.setPin f p).TablesOk := by
  unfold State.setPin
  split
  · exact h
  · exact State.TablesOk.reclassed ((State.tablesOk_giveNotice _ _ _).mpr h) (by simpa using hf) rfl id

/-! ### Clients -/

theorem State.TablesOk.silence (h : s.TablesOk) (c : Client) : (s.silence c).TablesOk := by
  have idle := h.onLive_bound c (f := LiveClaim.toIdle) (fun _ => rfl) fun busy => absurd rfl busy
  have suspended : (s.silenced c).TablesOk :=
    idle.mapPlan (f := fun e => if e.owner = c then e.suspend s.clock else e) fun e => by
      split
      · exact e.continues_suspend s.clock
      · exact Entry.continues_of_count rfl rfl
  exact suspended.claimsLeft s c

theorem State.TablesOk.reviveClient (h : s.TablesOk) (c : Client) : (s.reviveClient c).TablesOk := by
  have reopened : (s.reopened c).TablesOk := by
    refine h.filterMapPlan fun e y hy => ?_
    split at hy
    · exact Entry.continues_revive hy
    · cases hy
      exact Entry.continues_of_count rfl rfl
  rw [State.reviveClient_eq]
  exact State.TablesOk.wakeAll (by simpa using reopened) _

theorem State.TablesOk.teardownIfAttached (h : s.TablesOk) (c : Client) : (s.teardownIfAttached c).TablesOk := by
  have stripped : (s.stripped c).TablesOk := by
    refine h.restrict (fun f => f.owner != c) (fun e => e.owner != c) (x := (s.stripped c).live)
      (fun f _ e _ other _ owner => owner ▸ other) fun d => ?_
    by_cases own : d = c
    · subst own
      exact .inl (PerClient.get_set_same _ _ _)
    · exact .inr ⟨PerClient.get_set_other _ _ _ _ own, fun f _ owner _ => bne_iff_ne.mpr (owner ▸ own)⟩
  unfold State.teardownIfAttached
  split
  · exact h
  · rw [State.teardown_eq]
    refine State.TablesOk.claimsLeft ?_ _ _
    rw [s.emptied_frame c]
    exact stripped

end Acts
end Sys2Proof.Machine
end

section
namespace Sys2Proof.Machine

/-! ## Every row keeps the tables -/

section Rows

variable {s t : State} {c : Client}

theorem State.TablesOk.whenRunning {f : State → State} (h : s.TablesOk) (he : s.whenRunning f = .next t)
    (hf : (f s).TablesOk) : t.TablesOk := by
  cases he
  split
  · exact hf
  · exact h

theorem State.TablesOk.takeFrame {act : State → State} (h : s.TablesOk) (c : Client)
    (ha : ∀ u : State, u.TablesOk → (act u).TablesOk) : (s.takeFrame c act).TablesOk := by
  unfold State.takeFrame
  split
  · exact ha _ (by simpa using h)
  · exact h

/-- A row of a passing frame keeps the tables where its act does. -/
theorem State.TablesOk.frame {act : State → State} (h : s.TablesOk)
    (he : (s.whenRunning fun s => s.takeFrame c act) = .next t)
    (ha : ∀ u : State, u.TablesOk → (act u).TablesOk) : t.TablesOk := h.whenRunning he (h.takeFrame c ha)

/-- A row of a frame that only an OPENING or ACTIVE client is admitted to. -/
theorem State.TablesOk.admittedFrame {act : State → State} (h : s.TablesOk)
    (he : (s.whenRunning fun s => s.takeFrame c fun s => s.ifAdmitted c act) = .next t)
    (ha : ∀ u : State, u.TablesOk → (act u).TablesOk) : t.TablesOk := by
  refine h.frame he fun u hu => ?_
  unfold State.ifAdmitted
  split
  · exact ha u hu
  · exact hu

/-! ### Rows of the links -/

theorem execReplyCapture_tablesOk (h : s.TablesOk) (he : execReplyCapture c s = .next t) : t.TablesOk := by
  refine h.whenRunning he ?_
  split
  · dsimp only
    split <;> exact h
  · exact h

theorem execPause_tablesOk (h : s.TablesOk) (he : execPause c s = .next t) : t.TablesOk := by
  refine h.whenRunning he ?_
  split <;> exact h

theorem execAbortedFrameEnd_tablesOk (h : s.TablesOk) (he : execAbortedFrameEnd c s = .next t) : t.TablesOk := by
  refine h.whenRunning he ?_
  split <;> exact h

theorem execSelRiseAfterReset_tablesOk (h : s.TablesOk) (he : execSelRiseAfterReset c s = .next t) :
    t.TablesOk := by
  refine h.whenRunning he ?_
  split <;> exact h

theorem execFrameRejected_tablesOk (x : FrameFault) (h : s.TablesOk) (he : execFrameRejected c x s = .next t) :
    t.TablesOk := by
  refine h.whenRunning he ?_
  split <;> exact h

theorem execSelectTimeout_tablesOk (h : s.TablesOk) (he : execSelectTimeout c s = .next t) : t.TablesOk := by
  refine h.whenRunning he ?_
  split <;> exact h

theorem execFetch_tablesOk {item : Nat} {arg : BitVec 16} (h : s.TablesOk)
    (he : (s.whenRunning fun s => s.takeFrame c fun s => s.leaveFetch c item arg) = .next t) : t.TablesOk :=
  h.frame he fun _ hu => hu

theorem execAttach_tablesOk (v : Value) (h : s.TablesOk) (he : execAttach c v s = .next t) : t.TablesOk := by
  refine h.whenRunning he ?_
  split
  · exact State.TablesOk.teardownIfAttached (s := s.onLink c Link.consume) h c
  · exact h

theorem execCloseFlow_tablesOk {v : Value} (h : s.TablesOk) (he : execCloseFlow c v s = .next t) : t.TablesOk := by
  refine h.admittedFrame he fun u hu => ?_
  split
  · exact hu
  · rename_i f hf
    split
    · exact hu
    · exact hu.closeFlow (State.flowNamed_some hf).1

theorem execReclass_tablesOk {v : Value} (h : s.TablesOk) (he : execReclass c v s = .next t) : t.TablesOk := by
  refine h.admittedFrame he fun u hu => ?_
  split
  · exact hu
  · rename_i f hf
    split
    · exact hu
    · rename_i k _
      split
      · exact hu
      · exact hu.reclassed (g := { f with requested := k }) (State.flowNamed_some hf).1 rfl id

theorem execBindLive_tablesOk {v : Value} (h : s.TablesOk) (he : execBindLive c v s = .next t) : t.TablesOk := by
  refine h.admittedFrame he fun u hu => ?_
  split
  · split
    · rename_i idle
      exact hu.onLive c (f := fun l => { l with binding := none }) (fun busy => absurd idle busy) nofun
    · exact hu
  · split
    · exact hu
    · rename_i f hf
      obtain ⟨mem, owner, _⟩ := State.flowNamed_some hf
      split
      · exact hu.onLive c (f := fun l => { l with binding := some f.slot }) (fun _ => nofun)
          fun k hk => ⟨f, mem, Option.some_inj.mp hk, owner⟩
      · exact hu

theorem execPost_tablesOk {v : Value} (h : s.TablesOk) (he : execPost c v s = .next t) : t.TablesOk := by
  refine h.admittedFrame he fun u hu => ?_
  split
  · exact hu
  · split
    · exact hu
    · rename_i f hf
      obtain ⟨mem, owner, _⟩ := State.flowNamed_some hf
      exact hu.postDraft mem owner _

theorem execRetime_tablesOk {v : Value} (h : s.TablesOk) (he : execRetime c v s = .next t) : t.TablesOk := by
  refine h.admittedFrame he fun u hu => ?_
  split
  · exact hu
  · split
    · exact hu
    · exact hu.retimeEntry _ _

theorem execCancel_tablesOk {v : Value} (h : s.TablesOk) (he : execCancel c v s = .next t) : t.TablesOk := by
  refine h.admittedFrame he fun u hu => ?_
  split
  · exact hu
  · split
    · exact hu
    · exact hu.removeEntry _ _

theorem execChannelNote_tablesOk {v : Value} (h : s.TablesOk) (he : execChannelNote c v s = .next t) :
    t.TablesOk := by
  refine h.admittedFrame he fun u hu => ?_
  split
  · exact hu
  · split
    · exact hu
    · simpa using hu

theorem execParameterFrame_tablesOk {k : BitVec 5} {v : Value} (h : s.TablesOk)
    (he : execParameterFrame c k v s = .next t) : t.TablesOk := by
  refine h.admittedFrame he fun u hu => ?_
  split <;> exact hu

/-! ### Rows of the request lines and of the air clock -/

theorem execReqRise_tablesOk (h : s.TablesOk) (he : execReqRise c s = .next t) : t.TablesOk := by
  refine h.whenRunning he ?_
  split
  · exact h
  · split
    · rename_i makes
      simp only [State.riseMakesClaim, Bool.and_eq_true, Option.isSome_iff_ne_none] at makes
      obtain ⟨⟨_, bound⟩, _⟩ := makes
      refine State.TablesOk.claimArrived ?_ c
      exact h.onLive_bound c (fun _ => rfl) fun _ => .inr bound
    · exact h.onLive_bound c (f := fun l => { l with reqLevel := true }) (fun _ => rfl) .inl

theorem execReqFall_tablesOk (h : s.TablesOk) (he : execReqFall c s = .next t) : t.TablesOk := by
  have released := h.onLive_bound c (f := fun l => { l.toIdle with reqLevel := false }) (fun _ => rfl)
    fun busy => absurd rfl busy
  refine h.whenRunning he ?_
  split
  · exact h
  · dsimp only
    split
    · exact released.claimsLeft _ _
    · exact released

theorem execPrioEdge_tablesOk {x : Bool} (h : s.TablesOk) (he : execPrioEdge c x s = .next t) : t.TablesOk :=
  h.whenRunning he (h.onLive_bound c (f := fun l => { l with prioLevel := x }) (fun _ => rfl) .inl)

theorem execAgingExpiry_tablesOk (h : s.TablesOk) (he : execAgingExpiry c s = .next t) : t.TablesOk := by
  refine h.whenRunning he ?_
  split
  · refine State.TablesOk.stateCheckIf ((h.onBoundFlow c Flow.counts_aged).onLive_bound c
      (fun l => (l.nextAging_keeps _).2.2) fun busy => .inl fun idle => busy ?_) _
    simp [LiveClaim.nextAging, idle]
  · exact h

theorem execHoldExpiry_tablesOk (h : s.TablesOk) (he : execHoldExpiry c s = .next t) : t.TablesOk := by
  refine h.whenRunning he ?_
  split
  · rename_i due
    refine h.expireHold fun idle => ?_
    simp [State.holdDue, idle] at due
  · exact h

theorem execPresenceExpiry_tablesOk (h : s.TablesOk) (he : execPresenceExpiry c s = .next t) : t.TablesOk := by
  refine h.whenRunning he ?_
  split
  · exact h.silence c
  · exact h

theorem execMiss_tablesOk {n : Fin 32} (h : s.TablesOk) (he : execMiss n s = .next t) : t.TablesOk := by
  refine h.whenRunning he ?_
  split
  · exact h
  · split
    · exact h.missOccurrence _
    · exact h

theorem execOccurrenceEnd_tablesOk {n : Fin 32} (h : s.TablesOk) (he : execOccurrenceEnd n s = .next t) :
    t.TablesOk := by
  refine h.whenRunning he ?_
  split
  · exact h
  · split
    · exact h.serveOccurrence _
    · exact h

theorem execSuspendedStep_tablesOk {n : Fin 32} (h : s.TablesOk) (he : execSuspendedStep n s = .next t) :
    t.TablesOk := by
  refine h.whenRunning he (h.onEntry _ fun e y hy => ?_)
  cases hy
  split <;> exact Entry.continues_of_count rfl rfl

theorem execOneshotExpired_tablesOk {n : Fin 32} (h : s.TablesOk) (he : execOneshotExpired n s = .next t) :
    t.TablesOk := by
  refine h.whenRunning he (h.onEntry _ fun e y hy => ?_)
  cases hy
  split <;> exact Entry.continues_of_count rfl rfl

theorem execGuardEndSettling_tablesOk (h : s.TablesOk) (he : execGuardEndSettling s = .next t) : t.TablesOk := by
  refine h.whenRunning he ?_
  split
  · split
    · exact arbiterClosed_tablesOk.grant s _ h
    · exact h
  · exact h

theorem execGuardEndParking_tablesOk (h : s.TablesOk) (he : execGuardEndParking s = .next t) : t.TablesOk := by
  refine h.whenRunning he ?_
  split
  · split
    · exact (s.tablesOk_setMode .free).mpr h
    · exact h
  · exact h

theorem execRollover_tablesOk (h : s.TablesOk) (he : execRollover s = .next t) : t.TablesOk := by
  refine h.whenRunning he ?_
  split
  · have rolled : s.rolledOver.TablesOk := by
      rw [State.rolledOver_eq]
      exact h
    exact rolled.stateCheckIf _
  · exact h

theorem execPenaltyCrossing_tablesOk (h : s.TablesOk) (he : execPenaltyCrossing s = .next t) : t.TablesOk := by
  refine h.whenRunning he ?_
  split
  · rename_i c _
    split
    · exact State.TablesOk.stateCheck (s := { s with acct := { s.acct with
        penalty := s.acct.penalty.set c (s.penaltyNow c) } }) h
    · exact h
  · exact h

/-! ### Rows of the platform port -/

theorem execSetClass_tablesOk {k b a f : Byte} {l : BitVec 16} (h : s.TablesOk)
    (he : execSetClass k b a f l s = .next t) : t.TablesOk := by
  refine h.whenRunning he ?_
  split
  · exact h
  · rename_i k _
    exact (State.TablesOk.refreshHolds (s := { s with policy := { s.policy with
      classes := s.policy.classes.setRow k (classRowOf b a f l) } }) h k).stateCheck

theorem execSetClient_tablesOk {b share : Byte} {cap : BitVec 16} {p rank : Byte} (h : s.TablesOk)
    (he : execSetClient b share cap p rank s = .next t) : t.TablesOk := by
  refine h.whenRunning he ?_
  split
  · exact h
  · rw [State.setClient_eq]
    refine State.TablesOk.stateCheck ?_
    unfold State.clientWritten
    split
    · exact (s.tablesOk_giveNotice _ .policy).mpr h
    · exact h

theorem execSetWindow_tablesOk {n r : Byte} (h : s.TablesOk) (he : execSetWindow n r s = .next t) :
    t.TablesOk := by
  have restarted : (s.restartWindow (saturate 3 255 n.toNat) (saturate 1 16 r.toNat)).TablesOk := by
    rw [State.restartWindow_eq]
    exact h
  exact h.whenRunning he restarted.stateCheck

theorem State.TablesOk.defaultMoved (h : s.TablesOk) (old : Client) : (s.defaultMoved old).TablesOk := by
  have moved : (s.passZeroGuard s.moveToDefault).TablesOk :=
    arbiterClosed_tablesOk.passZeroGuard (arbiterClosed_tablesOk.moveToDefault s) s h
  unfold State.defaultMoved
  split
  · exact h
  · split
    · exact moved
    · exact moved
    · exact h

theorem execSetArbiter_tablesOk {g m a p x : Byte} (h : s.TablesOk) (he : execSetArbiter g m a p x s = .next t) :
    t.TablesOk := by
  have moved : (State.defaultMoved { s with policy := { s.policy with
      guardTime := saturate 0 63 g.toNat, margin := saturate 1 63 m.toNat
      agingInterval := saturate 1 50 a.toNat * Config.agingUnit, defaultPos := positionOf p
      channelGuard := saturate 0 15 x.toNat } } s.policy.defaultPos).TablesOk := by
    refine State.TablesOk.defaultMoved ?_ _
    exact h
  refine h.whenRunning he ((State.tablesOk_finishWrite _ _ _).mpr ?_)
  unfold State.setArbiter
  refine State.TablesOk.stateCheck ?_
  split
  · exact moved
  · exact (State.tablesOk_recompute _ _).mpr moved

theorem execFreezePlan_tablesOk {b x : Byte} (h : s.TablesOk) (he : execFreezePlan b x s = .next t) :
    t.TablesOk := by
  refine h.whenRunning he ?_
  split
  · exact h
  · simpa using h

theorem execPinFlow_tablesOk {k x : Byte} (h : s.TablesOk) (he : execPinFlow k x s = .next t) : t.TablesOk := by
  refine h.whenRunning he ?_
  split
  · exact h
  · rename_i f hf
    exact h.setPin (State.flowAt_some hf).1 _

theorem execUnpinFlow_tablesOk {k : Byte} (h : s.TablesOk) (he : execUnpinFlow k s = .next t) : t.TablesOk := by
  refine h.whenRunning he ?_
  split
  · exact h
  · rename_i f hf
    exact h.setPin (State.flowAt_some hf).1 _

theorem execDropEntry_tablesOk {n : Byte} (h : s.TablesOk) (he : execDropEntry n s = .next t) : t.TablesOk := by
  refine h.whenRunning he ?_
  split
  · exact h
  · exact h.removeEntry _ _

theorem execEvict_tablesOk {b : Byte} (h : s.TablesOk) (he : execEvict b s = .next t) : t.TablesOk := by
  refine h.whenRunning he ?_
  split
  · exact h
  · exact h.teardownIfAttached _

theorem execRevive_tablesOk {b : Byte} (h : s.TablesOk) (he : execRevive b s = .next t) : t.TablesOk := by
  refine h.whenRunning he ?_
  split
  · exact h
  · split
    · exact h.reviveClient _
    · exact h

theorem execStartSurvey_tablesOk {k : Byte} (h : s.TablesOk) (he : execStartSurvey k s = .next t) :
    t.TablesOk := by
  refine h.whenRunning he ?_
  split <;> exact h

theorem execStopSurvey_tablesOk (h : s.TablesOk) (he : execStopSurvey s = .next t) : t.TablesOk := by
  refine h.whenRunning he ((State.tablesOk_finishWrite _ _ _).mpr ?_)
  split <;> exact h

theorem State.restartAll_tablesOk (s : State) : s.restartAll.TablesOk :=
  .of_empty rfl rfl (fun c => by rw [(s.restartAll_client c).2.1]) fun c => by rw [(s.restartAll_client c).2.1]

theorem State.powerOn_tablesOk (pins : ResetPins) (k : Nat) (q : List Instr) :
    (State.powerOn pins k q).TablesOk :=
  .of_empty rfl rfl (fun c => (State.powerOn_live pins k q c).1) fun c => (State.powerOn_live pins k q c).2

theorem State.resetHeld_tablesOk (s : State) : s.resetHeld.TablesOk :=
  .of_empty rfl rfl (fun c => by cases c <;> rfl) fun c => by cases c <;> rfl

theorem execSetAttnMask_tablesOk {m : BitVec 16} (h : s.TablesOk) (he : execSetAttnMask m s = .next t) :
    t.TablesOk := h.whenRunning he h

theorem execClearNotices_tablesOk {m : BitVec 16} (h : s.TablesOk) (he : execClearNotices m s = .next t) :
    t.TablesOk := h.whenRunning he h

/-- A READ command writes the port alone. -/
theorem State.TablesOk.readRow (h : s.TablesOk) (readout : State → Option (List Byte))
    (he : (s.whenRunning fun s => s.read (readout s)) = .next t) : t.TablesOk :=
  h.whenRunning he ((s.tablesOk_read _).mpr h)

/-- Every row keeps the tables and their references. -/
theorem exec_tablesOk (i : Instr) (h : s.TablesOk) (he : exec i s = .next t) : t.TablesOk := by
  cases i with
  | resetEnd p => cases he; exact State.powerOn_tablesOk p _ _
  | resetnLow => cases he; exact s.resetHeld_tablesOk
  | replyCapture c => exact execReplyCapture_tablesOk h he
  | pause c => exact execPause_tablesOk h he
  | abortedFrameEnd c => exact execAbortedFrameEnd_tablesOk h he
  | selRiseAfterReset c => exact execSelRiseAfterReset_tablesOk h he
  | frameRejected c x => exact execFrameRejected_tablesOk x h he
  | selectTimeout c => exact execSelectTimeout_tablesOk h he
  | present c v => exact h.admittedFrame he fun _ hu => hu
  | attach c v => exact execAttach_tablesOk v h he
  | detach c v => exact h.frame he fun _ hu => hu.teardownIfAttached c
  | openFlow c v => exact h.admittedFrame he fun _ hu => hu.openFlow c _
  | closeFlow c v => exact execCloseFlow_tablesOk h he
  | reclass c v => exact execReclass_tablesOk h he
  | bindLive c v => exact execBindLive_tablesOk h he
  | post c v => exact execPost_tablesOk h he
  | retime c v => exact execRetime_tablesOk h he
  | cancel c v => exact execCancel_tablesOk h he
  | channelNote c v => exact execChannelNote_tablesOk h he
  | fetchTime c a => exact execFetch_tablesOk h he
  | fetchStatus c a => exact execFetch_tablesOk h he
  | fetchNotes c a => exact execFetch_tablesOk h he
  | fetchAccount c a => exact execFetch_tablesOk h he
  | fetchLast c a => exact execFetch_tablesOk h he
  | fetchMask c p a => exact execFetch_tablesOk h he
  | fetchFlow c a => exact execFetch_tablesOk h he
  | fetchFlowcount c a => exact execFetch_tablesOk h he
  | fetchEntry c a => exact execFetch_tablesOk h he
  | fetchItemAbove11 c x a => exact execFetch_tablesOk h he
  | clearNotes c v => exact h.frame he fun _ hu => hu
  | parameterFrame c k v => exact execParameterFrame_tablesOk h he
  | reservedFrame c k x v => exact h.frame he fun _ hu => hu
  | reqRise c => exact execReqRise_tablesOk h he
  | reqFall c => exact execReqFall_tablesOk h he
  | prioEdge c x => exact execPrioEdge_tablesOk h he
  | agingExpiry c => exact execAgingExpiry_tablesOk h he
  | holdExpiry c => exact execHoldExpiry_tablesOk h he
  | presenceExpiry c => exact execPresenceExpiry_tablesOk h he
  | startReached n => exact h.whenRunning (f := fun s => s.wake n.val) he (h.wake n.val)
  | miss n => exact execMiss_tablesOk h he
  | occurrenceEnd n => exact execOccurrenceEnd_tablesOk h he
  | suspendedStep n => exact execSuspendedStep_tablesOk h he
  | oneshotExpired n => exact execOneshotExpired_tablesOk h he
  | guardEndSettling => exact execGuardEndSettling_tablesOk h he
  | guardEndParking => exact execGuardEndParking_tablesOk h he
  | rollover => exact execRollover_tablesOk h he
  | penaltyCrossing => exact execPenaltyCrossing_tablesOk h he
  | setClass k b a f l => exact execSetClass_tablesOk h he
  | setClient b x cap p rank => exact execSetClient_tablesOk h he
  | setWindow n r => exact execSetWindow_tablesOk h he
  | setArbiter g m a p x => exact execSetArbiter_tablesOk h he
  | freezePlan b x => exact execFreezePlan_tablesOk h he
  | pinFlow k x => exact execPinFlow_tablesOk h he
  | unpinFlow k => exact execUnpinFlow_tablesOk h he
  | dropEntry n => exact execDropEntry_tablesOk h he
  | evict b => exact execEvict_tablesOk h he
  | revive b => exact execRevive_tablesOk h he
  | startSurvey k => exact execStartSurvey_tablesOk h he
  | stopSurvey => exact execStopSurvey_tablesOk h he
  | restart => exact h.whenRunning (f := fun s => s.restartAll.finishWrite .ok []) he s.restartAll_tablesOk
  | setAttnMask m => exact execSetAttnMask_tablesOk h he
  | clearNotices m => exact execClearNotices_tablesOk h he
  | readNotices => exact h.readRow (fun s => some s.noticesReadout) he
  | readClient b => exact h.readRow (fun s => (clientOfIndex b.toNat).map s.clientReadout) he
  | readAccount b => exact h.readRow (fun s => (clientOfIndex b.toNat).map s.accountReadout) he
  | readFlow k => exact h.readRow (fun s => (s.flowAt k.toNat).map s.flowReadout) he
  | readEntry n => exact h.readRow (fun s => (s.entryAt n.toNat).map entryReadout) he
  | readPlanOrder => exact h.readRow (fun s => some s.orderReadout) he
  | readAir => exact h.readRow (fun s => some s.airReadout) he
  | readChannel => exact h.readRow (fun s => some s.channelReadout) he
  | readSurvey => exact h.readRow (fun s => some s.surveyReadout) he
  | discardedWrite x => exact h.whenRunning (f := fun s => s.refuseWrite (discardResult x)) he h
  | emptyWrite => exact h.whenRunning (f := fun s => s) he h

end Rows

/-- Settles O55: every row keeps the tables, and the tick does not touch them. -/
theorem everyStepKeepsTheTables : Obligations.EveryStepKeepsTheTables := by
  intro s t flows plan refs h
  have tables : s.TablesOk := ⟨flows, plan, refs⟩
  rcases step_cases h with ⟨i, q, k, hi⟩ | ⟨_, rfl⟩ | rfl
  · exact exec_tablesOk (s := { s with pending := q, freeIndex := k }) i tables hi
  · exact tables
  · exact tables

end Sys2Proof.Machine
end

section
namespace Sys2Proof.Machine

/-! ## OPEN FLOW -/

section OpenFlow

variable {s : State} {c : Client} {v : Value} {k : FlowClass} {h : Nat}

/-- The lowest free slot is a slot of the table in no record's use, below which every slot is used (R43). -/
theorem State.freeSlot_iff (s : State) (k : Nat) :
    s.freeSlot = some k ↔ k < 24 ∧ (∀ f ∈ s.flows, f.slot ≠ k) ∧ ∀ j, j < k → ∃ f ∈ s.flows, f.slot = j := by
  rw [State.freeSlot, List.find?_range_eq_some]
  simp only [Bool.not_eq_true', List.any_eq_false, List.mem_range, Bool.not_not, List.any_eq_true, beq_iff_eq,
    Config.flowSlots]
  exact and_left_comm

theorem State.openFlow_range (bad : h = 0 ∨ 255 < h ∨ classOfCode (s.links.get c).draft.flowClass.toNat = none) :
    s.openFlow c h = s.refuse c .range := by
  unfold State.openFlow
  split
  · rfl
  · rename_i named
    rw [show classOfCode (s.links.get c).draft.flowClass.toNat = none by tauto]

/-- With the handle and the class in their ranges the checks go on to uniqueness and room (R44). -/
theorem State.openFlow_inRange (lo : 1 ≤ h) (hi : h ≤ 255)
    (hk : classOfCode (s.links.get c).draft.flowClass.toNat = some k) :
    s.openFlow c h =
      if (s.flowNamed c h).isSome then s.refuse c .duplicate
      else if 12 ≤ s.flowCount c then s.refuse c .noRoom
      else match s.freeSlot with
        | none => s.refuse c .noRoom
        | some slot => ({ s with flows := insertFlow (newFlow slot c h k) s.flows } : State).answer c .ok
            (BitVec.ofNat 24 slot) := by
  unfold State.openFlow
  rw [if_neg (by omega), hk]
  rfl

theorem exec_openFlow (ha : s.admits c) : exec (.openFlow c v) s = .next ((s.frameTaken c).openFlow c v.toNat) :=
  s.takeFrame_admits c _ ha

theorem State.frameTaken_class (hk : classOfCode (s.links.get c).draft.flowClass.toNat = some k) :
    classOfCode ((s.frameTaken c).links.get c).draft.flowClass.toNat = some k := by
  rwa [State.frameTaken_draft]

/-- Another flow table beside an answered frame. -/
theorem State.frameTaken_answer_flows (s : State) (c : Client) (r : Result) (d : Value) (fs : List Flow) :
    ({ s.frameTaken c with flows := fs } : State).answer c r d = { s.answered c (.answer r d) with flows := fs } :=
  congrArg (fun t : State => { t with flows := fs }) (s.frameTaken_answer c r d)

end OpenFlow

/-- Settles O17. -/
theorem openFlowTakesTheLowestSlot : Obligations.OpenFlowTakesTheLowestSlot := by
  refine ⟨fun s c v k slot ha lo hi hk unused room free => ?opened, State.freeSlot_iff, fun s c v ha bad => ?range,
    fun s c v k f ha lo hi hk used => ?duplicate, fun s c v k ha lo hi hk unused full => ?noRoom⟩ <;>
    rw [exec_openFlow ha]
  case opened =>
    have named : (s.frameTaken c).flowNamed c v.toNat = none := unused
    have count : ¬ 12 ≤ (s.frameTaken c).flowCount c := Nat.not_le.mpr room
    have slots : (s.frameTaken c).freeSlot = some slot := free
    rw [State.openFlow_inRange lo hi (State.frameTaken_class hk), named, slots, if_neg nofun, if_neg count]
    exact congrArg _ (s.frameTaken_answer_flows c .ok _ _)
  case range =>
    rw [State.openFlow_range (by rwa [State.frameTaken_draft]), State.frameTaken_refuse]
  case duplicate =>
    have named : (s.frameTaken c).flowNamed c v.toNat = some f := used
    rw [State.openFlow_inRange lo hi (State.frameTaken_class hk), named, Option.isSome_some, if_pos rfl,
      State.frameTaken_refuse]
  case noRoom =>
    have named : (s.frameTaken c).flowNamed c v.toNat = none := unused
    have full : 12 ≤ (s.frameTaken c).flowCount c ∨ (s.frameTaken c).freeSlot = none := full
    rw [State.openFlow_inRange lo hi (State.frameTaken_class hk), named, if_neg nofun, ← State.frameTaken_refuse]
    split
    · rfl
    · rename_i room
      rw [full.resolve_left room]

/-! ## BIND LIVE -/

section BindLive

variable {s : State} {c : Client} {v : Value} {f : Flow}

/-- Another live claim beside an answered frame. -/
theorem State.frameTaken_answer_live (s : State) (c : Client) (r : Result) (d : Value) (x : PerClient LiveClaim) :
    ({ s.frameTaken c with live := x } : State).answer c r d = { s.answered c (.answer r d) with live := x } :=
  congrArg (fun t : State => { t with live := x }) (s.frameTaken_answer c r d)

theorem exec_bindLive_unbind (ha : s.admits c) :
    exec (.bindLive c 0) s = .next (if (s.live.get c).state = .idle then
      { s.answered c (.answer .ok 0) with live := s.live.set c { s.live.get c with binding := none } }
      else s.answered c (.answer .state 0)) := by
  refine (s.takeFrame_admits c _ ha).trans (congrArg _ ((if_pos rfl).trans ?_))
  exact if_congr Iff.rfl (s.frameTaken_answer_live c .ok 0 _) (s.frameTaken_refuse c .state)

/-- A handle that is not 0 names one of the client's flows or none (R52, R143). -/
theorem exec_bindLive_handle (ha : s.admits c) (hv : v ≠ 0) :
    exec (.bindLive c v) s = .next (match s.flowNamed c v.toNat with
      | none => s.answered c (.answer .unknown 0)
      | some f => if (s.live.get c).state = .idle then
          { s.answered c (.answer .ok v) with live := s.live.set c { s.live.get c with binding := some f.slot } }
          else s.answered c (.answer .state 0)) := by
  have handle : ¬ wholeHandle v = 0 := fun zero => hv (BitVec.eq_of_toNat_eq zero)
  refine (s.takeFrame_admits c _ ha).trans (congrArg _ ((if_neg handle).trans ?_))
  have named : (s.frameTaken c).flowNamed c (wholeHandle v) = s.flowNamed c v.toNat := rfl
  rw [named]
  cases hf : s.flowNamed c v.toNat with
  | none => exact s.frameTaken_refuse c .unknown
  | some f =>
    have value : BitVec.ofNat 24 f.handle = v := by
      obtain ⟨_, _, same⟩ := State.flowNamed_some hf
      rw [same, BitVec.ofNat_toNat, BitVec.setWidth_eq]
    dsimp only
    rw [value]
    exact if_congr Iff.rfl (s.frameTaken_answer_live c .ok v _) (s.frameTaken_refuse c .state)

end BindLive

/-- Settles O20. -/
theorem bindLiveNeedsAnIdleClaim : Obligations.BindLiveNeedsAnIdleClaim := by
  refine ⟨fun s c ha idle => ?_, fun s c v f ha hv hf idle => ?_, fun s c v ha hv hf => ?_,
    fun s c v ha named busy => ?_⟩
  · rw [exec_bindLive_unbind ha, if_pos idle]
  · rw [exec_bindLive_handle ha hv, hf]
    exact congrArg _ (if_pos idle)
  · rw [exec_bindLive_handle ha hv, hf]
  · by_cases hv : v = 0
    · subst hv
      rw [exec_bindLive_unbind ha, if_neg busy]
    · obtain ⟨f, hf⟩ := Option.isSome_iff_exists.mp (named.resolve_left hv)
      rw [exec_bindLive_handle ha hv, hf]
      exact congrArg _ (if_neg busy)

end Sys2Proof.Machine
end

section
namespace Sys2Proof.Machine

/-! ## RECLASS -/

section Reclass

variable {s t : State} {c : Client} {v : Value} {f : Flow} {k : FlowClass}

/-- The flow's requested class replaced, before the effects of R48 (R49). -/
def State.requested (s : State) (f : Flow) (k : FlowClass) : State :=
  { s with flows := onSlot f.slot (fun _ => { f with requested := k }) s.flows }

theorem effectiveClass_unpinned (h : f.pinned = none) : effectiveClass f = f.requested := by
  rw [effectiveClass, h]
  rfl

theorem effectiveClass_requested (h : f.pinned = none) (k : FlowClass) : effectiveClass { f with requested := k } = k :=
  effectiveClass_unpinned (f := { f with requested := k }) h

/-- An unpinned flow has its requested class as its effective class: a RECLASS to that class has no further effect. -/
theorem State.reclassed_requested_same (h : f.pinned = none) (hk : k = f.requested) :
    s.reclassed f { f with requested := k } = s.requested f k := by
  have same : effectiveClass { f with requested := k } = effectiveClass f := by
    rw [effectiveClass_requested h, effectiveClass_unpinned h, hk]
  exact if_pos same

theorem State.reclassed_requested_changed (h : f.pinned = none) (hk : k ≠ f.requested) :
    s.reclassed f { f with requested := k } = (s.requested f k).classChanged f := by
  have differs : effectiveClass { f with requested := k } ≠ effectiveClass f := by
    rw [effectiveClass_requested h, effectiveClass_unpinned h]
    exact hk
  exact if_neg differs

/-- Whatever the arbiter answers, a RECLASS leaves every profile as the new class makes it. -/
theorem State.reclassed_requested_sameFlows (h : f.pinned = none) :
    SameFlows (s.requested f k) (s.reclassed f { f with requested := k }) := by
  by_cases hk : k = f.requested
  · rw [State.reclassed_requested_same h hk]
    exact rfl
  · rw [State.reclassed_requested_changed h hk]
    exact (State.classChanged_pinsStand _ f).1

/-- The hold limit of an unpinned flow just reclassed is that of its requested class (R48, R118). -/
theorem State.requested_holdLimit (h : s.flowAt f.slot = some f) (unpinned : f.pinned = none) :
    (s.requested f k).holdLimitOf f.slot = (s.policy.classes.row k).holdLimit := by
  have found : (s.requested f k).flowAt f.slot = some { f with requested := k } := State.flowAt_onSlot h rfl
  rw [State.holdLimitOf, State.rowOfSlot, found, Option.map_some, effectiveClass_requested unpinned]
  rfl

/-- RECLASS by its checks: UNKNOWN, then RANGE, then LOCKED (R49). -/
theorem exec_reclass (ha : s.admits c) :
    exec (.reclass c v) s = .next (match s.flowNamed c (v.extractLsb' 8 16).toNat with
      | none => s.answered c (.answer .unknown 0)
      | some f => match classOfCode (v.extractLsb' 0 8).toNat with
        | none => s.answered c (.answer .range 0)
        | some k => if f.pinned.isSome then s.answered c (.answer .locked 0)
          else ((s.frameTaken c).reclassed f { f with requested := k }).answer c .ok 0) := by
  refine (s.takeFrame_admits c _ ha).trans (congrArg _ ?_)
  have named : (s.frameTaken c).flowNamed c (reclassHandle v) = s.flowNamed c (v.extractLsb' 8 16).toNat := rfl
  rw [named]
  cases s.flowNamed c (v.extractLsb' 8 16).toNat with
  | none => exact s.frameTaken_refuse c .unknown
  | some f =>
    dsimp only [reclassCode]
    cases classOfCode (v.extractLsb' 0 8).toNat with
    | none => exact s.frameTaken_refuse c .range
    | some k => exact if_congr Iff.rfl (s.frameTaken_refuse c .locked) rfl

theorem exec_reclass_unpinned (ha : s.admits c) (hf : s.flowNamed c (v.extractLsb' 8 16).toNat = some f)
    (hk : classOfCode (v.extractLsb' 0 8).toNat = some k) (unpinned : f.pinned = none) :
    exec (.reclass c v) s = .next (((s.frameTaken c).reclassed f { f with requested := k }).answer c .ok 0) := by
  rw [exec_reclass ha, hf, hk]
  dsimp only
  rw [unpinned, if_neg nofun]

/-- With a new class and no live claim of the flow holding the arbiter makes its check (R48, R103). -/
theorem exec_reclass_checked (ha : s.admits c) (hf : s.flowNamed c (v.extractLsb' 8 16).toNat = some f)
    (hk : classOfCode (v.extractLsb' 0 8).toNat = some k) (unpinned : f.pinned = none) (new : k ≠ f.requested)
    (none : s.liveHolding c = none ∨ (s.live.get c).binding ≠ some f.slot) :
    exec (.reclass c v) s = .next ((((s.frameTaken c).requested f k).stateCheck).answer c .ok 0) := by
  obtain ⟨_, owner, _⟩ := State.flowNamed_some hf
  rw [exec_reclass_unpinned ha hf hk unpinned, State.reclassed_requested_changed unpinned new,
    State.classChanged_quiet (by rw [owner]; exact none)]

/-- With a new class the hold deadline of the flow's HOLDING live claim follows it, and an expiry it has then reached
is taken before the arbiter's check (R48, R119, R120). -/
theorem exec_reclass_holding {u : Bool} {a d l : AirTime} (ha : s.admits c)
    (hf : s.flowNamed c (v.extractLsb' 8 16).toNat = some f)
    (hk : classOfCode (v.extractLsb' 0 8).toNat = some k) (unpinned : f.pinned = none) (new : k ≠ f.requested)
    (hb : (s.live.get c).binding = some f.slot) (hl : (s.live.get c).state = .holding u a d)
    (at_ : s.flowAt f.slot = some f) (hlim : l = a + BitVec.ofNat 32 (s.policy.classes.row k).holdLimit)
    (ht : t = ((s.frameTaken c).requested f k).withHold c u a l) :
    exec (.reclass c v) s =
      .next ((State.stateCheck
        (if reached s.clock l then t.claimsLeft (t.overstayed c f.slot) c else t)).answer c .ok 0) := by
  obtain ⟨_, owner, _⟩ := State.flowNamed_some hf
  have limit : l = after a (((s.frameTaken c).requested f k).holdLimitOf f.slot) := by
    rw [State.requested_holdLimit (s := s.frameTaken c) at_ unpinned]
    exact hlim
  have bound : (t.live.get c).binding = some f.slot := by
    rw [ht, State.withHold, PerClient.get_set_same]
    exact hb
  rw [exec_reclass_unpinned ha hf hk unpinned, State.reclassed_requested_changed unpinned new,
    State.classChanged_holding (by rw [owner]; exact hb) (by rw [owner]; exact hl) limit, owner, ← ht,
    t.expireHold_eq c f.slot bound]
  rfl

end Reclass

/-- Settles O19. -/
theorem reclassSetsTheRequestedClass : Obligations.ReclassSetsTheRequestedClass := by
  refine ⟨fun s c v f k ha hf hk unpinned => ?set, fun s c v f k ha hf hk unpinned quiet => ?quiet,
    fun s c v f k ha hf hk unpinned new none => exec_reclass_checked ha hf hk unpinned new none,
    fun s c v f k u a d l t ha hf hk unpinned new hb hl at_ hlim ht => ?holding,
    fun s c v ha hf => by rw [exec_reclass ha, hf], fun s c v f ha hf hk => by rw [exec_reclass ha, hf, hk],
    fun s c v f k p ha hf hk pinned => ?locked⟩
  case set =>
    obtain ⟨mem, owner, _⟩ := State.flowNamed_some hf
    have record : { f with requested := k } ∈ ((s.frameTaken c).requested f k).flows :=
      List.mem_map.mpr ⟨f, mem, if_pos rfl⟩
    obtain ⟨g, hg, same⟩ := (State.reclassed_requested_sameFlows unpinned).mem record
    simp only [Flow.profile, Prod.mk.injEq] at same
    obtain ⟨slot, owned, handle, requested, pin⟩ := same
    refine ⟨_, exec_reclass_unpinned ha hf hk unpinned, ?_, g, hg, slot, owned.trans owner, handle, requested,
      pin.trans unpinned⟩
    simp [State.answer]
  case quiet =>
    have calm : (s.frameTaken c).reclassed f { f with requested := k } = (s.frameTaken c).requested f k := by
      by_cases same : k = f.requested
      · exact State.reclassed_requested_same unpinned same
      · obtain ⟨rest, none⟩ := quiet.resolve_left same
        obtain ⟨_, owner, _⟩ := State.flowNamed_some hf
        rw [State.reclassed_requested_changed unpinned same, State.classChanged_quiet (by rw [owner]; exact none)]
        exact State.stateCheck_rest _ rest
    rw [exec_reclass_unpinned ha hf hk unpinned, calm]
    exact congrArg _ (s.frameTaken_answer_flows c .ok 0 _)
  case holding =>
    constructor <;> intro hr <;> rw [exec_reclass_holding ha hf hk unpinned new hb hl at_ hlim ht, hr]
    · rw [if_neg nofun]
    · rw [if_pos rfl]
  case locked =>
    rw [exec_reclass ha, hf, hk]
    dsimp only
    rw [pinned, if_pos (Option.isSome_some)]

end Sys2Proof.Machine
end

section
namespace Sys2Proof.Machine

/-! ## Grants and joins -/

section Grants

variable {s : State} {c : Client}

/-- A row whose act changes nothing changes nothing, RESETN low or high. -/
theorem State.whenRunning_unchanged {f : State → State} (h : f s = s) : s.whenRunning f = .next s := by
  cases hr : s.resetn with
  | true => rw [s.whenRunning_high f hr, h]
  | false => exact s.whenRunning_low f hr

/-- Changing slot after slot changes each flow once for every mention of its slot. -/
theorem foldl_onSlot_iterate (g : Flow → Flow) (hg : ∀ f, (g f).slot = f.slot) (ks : List Nat) (fs : List Flow) :
    ks.foldl (fun fs k => onSlot k g fs) fs = fs.map fun f => g^[ks.count f.slot] f := by
  induction ks generalizing fs with
  | nil => simp
  | cons k ks ih =>
    rw [List.foldl_cons, ih, onSlot, List.map_map]
    refine List.map_congr_left fun f _ => ?_
    by_cases hk : f.slot = k
    · subst hk
      rw [Function.comp_apply, if_pos rfl, List.count_cons_self, Function.iterate_succ_apply, hg]
    · simp [hk, List.count_cons_of_ne (Ne.symm hk)]

/-- One claim or more of a flow granted: its streak is 0, and its Grants have risen once for each (R54, R55). -/
theorem Flow.won_iterate (n : Nat) (f : Flow) :
    Flow.won^[n + 1] f = { f with streak := 0, grants := min 65535 (f.grants + (n + 1)) } := by
  induction n with
  | zero => rfl
  | succ n ih =>
    rw [Function.iterate_succ_apply', ih]
    have once : raise16 (min 65535 (f.grants + (n + 1))) = min 65535 (f.grants + (n + 1 + 1)) := by
      simp only [raise16, Config.counterMax]
      omega
    simp only [Flow.won, once]

theorem State.turnHolding_flows (s : State) (c : Client) :
    (s.turnHolding c).flows = s.flows.map fun f => Flow.won^[(s.waitingSlots c).count f.slot] f :=
  foldl_onSlot_iterate Flow.won (fun _ => rfl) _ _

/-- A flow with no waiting claim of the client keeps its record. -/
theorem State.turnHolding_flow_kept {f : Flow} (hf : f ∈ s.flows) (hw : f.slot ∉ s.waitingSlots c) :
    f ∈ (s.turnHolding c).flows := by
  rw [s.turnHolding_flows c]
  exact List.mem_map.mpr ⟨f, hf, by rw [List.count_eq_zero.mpr hw]; rfl⟩

/-- A flow with waiting claims of the client has won once for each. -/
theorem State.turnHolding_flow_won {f : Flow} (hf : f ∈ s.flows) (hw : f.slot ∈ s.waitingSlots c) :
    { f with streak := 0, grants := min 65535 (f.grants + (s.waitingSlots c).count f.slot) } ∈
      (s.turnHolding c).flows := by
  obtain ⟨n, count⟩ := Nat.exists_eq_succ_of_ne_zero (Nat.ne_of_gt (List.count_pos_iff.mpr hw))
  rw [s.turnHolding_flows c]
  exact List.mem_map.mpr ⟨f, hf, by rw [count]; exact Flow.won_iterate n f⟩

/-- A live claim that does not wait is not granted. -/
theorem State.grantLive_of_not_waiting (h : s.liveWaiting c = none) : s.grantLive (s.live.get c) = s.live.get c := by
  unfold State.liveWaiting at h
  unfold State.grantLive
  split
  · rename_i waits bound
    rw [waits, bound] at h
    cases h
  · rfl

/-- A WAITING live claim turns holding, its deadline by its flow's class (R96, R118). -/
theorem State.grantLive_waiting {u : Bool} {d : AirTime} {k : Nat} {f : Flow} {l : LiveClaim}
    (waits : l.state = .waiting u d) (bound : l.binding = some k) (hf : s.flowAt k = some f) :
    s.grantLive l = { l with
      state := .holding u s.clock
        (s.clock + BitVec.ofNat 32 (s.policy.classes.row (effectiveClass f)).holdLimit) } := by
  have limit : s.holdLimitOf k = (s.policy.classes.row (effectiveClass f)).holdLimit := by
    rw [State.holdLimitOf, State.rowOfSlot, hf]
    rfl
  unfold State.grantLive
  rw [waits, bound]
  dsimp only
  rw [limit]
  rfl

theorem State.turnHolding_liveWaiting : (s.turnHolding c).liveWaiting c = none := by
  have live : (s.turnHolding c).live.get c = s.grantLive (s.live.get c) := PerClient.get_set_same _ _ _
  unfold State.liveWaiting
  rw [live]
  unfold State.grantLive
  cases hl : (s.live.get c).state with
  | waiting u d => cases hb : (s.live.get c).binding <;> simp [hl, hb]
  | _ => simp [hl]

theorem State.turnHolding_dueSlots : (s.turnHolding c).dueSlots c = [] := by
  refine List.map_eq_nil_iff.mpr (List.filter_eq_nil_iff.mpr fun y hy => ?_)
  obtain ⟨x, _, rfl⟩ := List.mem_map.mp hy
  unfold Entry.grantTo
  split
  · simp [Entry.isDue]
  · rename_i other
    simpa [Entry.isDue] using other

/-- Every waiting claim of the client has turned holding (R96). -/
theorem State.turnHolding_waitingClaims : (s.turnHolding c).waitingClaims c = [] := by
  rw [State.waitingClaims, State.turnHolding_liveWaiting, State.turnHolding_dueSlots]
  rfl

end Grants

/-! ## START_REACHED -/

section StartReached

variable {s : State} {e : Entry} {n : Nat}

/-- In a plan of distinct numbers one entry has a given entry's number. -/
theorem numbersDiffer.filter_number {es : List Entry} (h : numbersDiffer es) (he : e ∈ es) :
    es.filter (fun x => decide (x.number = e.number)) = [e] := by
  induction es with
  | nil => cases he
  | cons x es ih =>
    obtain ⟨first, rest⟩ := List.pairwise_cons.mp h
    rcases List.mem_cons.mp he with rfl | later
    · rw [List.filter_cons_of_pos (by simp), List.filter_eq_nil_iff.mpr fun y hy => by simpa using (first y hy).symm]
    · rw [List.filter_cons_of_neg (by simpa using first e later), ih rest later]

theorem exec_startReached (n : Fin 32) (high : s.resetn = true) :
    exec (.startReached n) s = .next (s.wake n.val) :=
  s.whenRunning_high (fun s => s.wake n.val) high

/-- A claim of the next holder arrives, and nothing else happens (R95). -/
theorem State.claimArrived_next {c : Client} {g : AirTime} (h : s.arb.mode = .settling c g) :
    s.claimArrived c = s := by
  unfold State.claimArrived
  rw [h]
  dsimp only
  rw [if_pos rfl, State.passZeroGuard_self]

/-- A claim of the holder arrives: it joins the holding (R95). -/
theorem State.claimArrived_holder {c : Client} (h : s.arb.mode = .held c) : s.claimArrived c = s.turnHolding c := by
  unfold State.claimArrived
  rw [h]
  dsimp only
  rw [if_pos rfl]
  exact State.passZeroGuard_of_kept (State.guardStarted_of_arb_eq rfl)

/-- The entry of a number DUE (R68). -/
def State.madeDue (s : State) (n : Nat) : State := s.onEntry n fun x => some { x with status := .due }

theorem State.dueSlots_nil_iff {c : Client} :
    s.dueSlots c = [] ↔ ∀ x ∈ s.plan, ¬ (x.owner = c ∧ x.status = .due) := by
  simp [State.dueSlots, List.filter_eq_nil_iff, Entry.isDue]

/-- With no other waiting claim of the client, the slot of the entry made DUE is the only one with a waiting claim. -/
theorem State.madeDue_waitingSlots (numbers : numbersDiffer s.plan) (he : s.entryAt n = some e)
    (none : s.waitingClaims e.owner = []) : (s.madeDue n).waitingSlots e.owner = [e.flow] := by
  obtain ⟨mem, rfl⟩ := State.entryAt_some he
  obtain ⟨live, due⟩ := List.append_eq_nil_iff.mp none
  have live : (s.madeDue e.number).liveWaiting e.owner = .none := Option.toList_eq_nil_iff.mp live
  have others := State.dueSlots_nil_iff.mp (List.map_eq_nil_iff.mp due)
  have one : (s.madeDue e.number).dueSlots e.owner = [e.flow] := by
    rw [State.dueSlots, State.madeDue, State.onEntry_plan, onNumber_some, List.filter_map,
      List.filter_congr (q := fun x => decide (x.number = e.number)), numbers.filter_number mem]
    · simp
    · intro x hx
      by_cases same : x.number = e.number
      · obtain rfl := numbers.eq_of_number hx mem same
        simp [Entry.isDue]
      · simpa [same, Entry.isDue] using others x hx
  simp [State.waitingSlots, State.waitingClaims, live, one]

/-- The entry made DUE joins its holder, and no other entry changes (R69). -/
theorem State.madeDue_grantTo (numbers : numbersDiffer s.plan) (he : s.entryAt n = some e)
    (none : s.waitingClaims e.owner = []) (now : AirTime) :
    (s.madeDue n).plan.map (Entry.grantTo e.owner now) =
      onNumber n (fun x => some { x with status := .holding now }) s.plan := by
  obtain ⟨mem, rfl⟩ := State.entryAt_some he
  have others := State.dueSlots_nil_iff.mp (List.map_eq_nil_iff.mp (List.append_eq_nil_iff.mp none).2)
  rw [State.madeDue, State.onEntry_plan, onNumber_some, onNumber_some, List.map_map]
  refine List.map_congr_left fun x hx => ?_
  by_cases same : x.number = e.number
  · obtain rfl := numbers.eq_of_number hx mem same
    simp [Entry.grantTo]
  · simp [same, Entry.grantTo, others x hx]

/-- An occurrence of the holder that falls due with no waiting claim beside it joins the holding (R69, R95). -/
theorem State.madeDue_joins (numbers : numbersDiffer s.plan) (he : s.entryAt n = some e)
    (held : s.arb.mode = .held e.owner) (none : s.waitingClaims e.owner = []) :
    (s.madeDue n).claimArrived e.owner = { s with
      plan := onNumber n (fun x => some { x with status := .holding s.clock }) s.plan
      flows := onSlot e.flow Flow.won s.flows } := by
  have live : s.liveWaiting e.owner = .none := Option.toList_eq_nil_iff.mp (List.append_eq_nil_iff.mp none).1
  have slots := State.madeDue_waitingSlots numbers he none
  have plan := State.madeDue_grantTo numbers he none s.clock
  have kept : (s.madeDue n).grantLive (s.live.get e.owner) = s.live.get e.owner :=
    State.grantLive_of_not_waiting (s := s.madeDue n) live
  have held : (s.madeDue n).arb.mode = .held e.owner := held
  rw [State.claimArrived_holder held]
  unfold State.turnHolding
  rw [slots]
  change ({ s with
    flows := _, plan := (s.madeDue n).plan.map (Entry.grantTo e.owner s.clock)
    live := s.live.set e.owner ((s.madeDue n).grantLive (s.live.get e.owner)) } : State) = _
  rw [plan, kept, PerClient.set_get]
  rfl

end StartReached

/-- Settles O27. -/
theorem startReachedFallsDue : Obligations.StartReachedFallsDue := by
  refine ⟨fun s n e high he scheduled start => ?due, fun s n e g high he scheduled start settling => ?next,
    fun s n e high he scheduled start held none numbers => ?joins, fun s n e he early => ?early,
    fun s n => ⟨fun free => ?free, exec_startReached n⟩⟩
  case due => rw [exec_startReached n high, State.wake_ready he ⟨scheduled, start⟩]
  case next =>
    rw [exec_startReached n high, State.wake_ready he ⟨scheduled, start⟩]
    exact congrArg _ (State.claimArrived_next (g := g) settling)
  case joins =>
    rw [exec_startReached n high, State.wake_ready he ⟨scheduled, start⟩]
    exact congrArg _ (State.madeDue_joins (numbers.imp Nat.ne_of_lt) he held none)
  case early =>
    refine State.whenRunning_unchanged (f := fun s => s.wake n.val) ((s.wake_cases n.val).resolve_right ?_)
    rintro ⟨x, hx, scheduled, start, _⟩
    obtain rfl : e = x := Option.some.inj (he.symm.trans hx)
    rcases early with other | early
    · exact other scheduled
    · rw [start] at early; cases early
  case free =>
    refine State.whenRunning_unchanged (f := fun s => s.wake n.val) ((s.wake_cases n.val).resolve_right ?_)
    rintro ⟨x, hx, _⟩
    rw [free] at hx; cases hx

/-! ## The end of the guard -/

section GuardEnd

variable {s : State} {c : Client} {g : AirTime}

/-- From the guard's account to another the guard counter is brought up to now, and no other account changes (R5). -/
theorem State.setMode_of_guard {m : ArbiterMode} (charged : s.acct.charged = .guardTime)
    (other : accountOf m ≠ .guardTime) :
    s.setMode m = { s with
      arb := { s.arb with mode := m }
      acct := { s.acct with guardTime := s.guardNow, charged := accountOf m, chargeStart := s.clock } } := by
  have usage : (⟨s.usageNow .nr, s.usageNow .sr, s.usageNow .ar⟩ : PerClient Nat) = s.acct.usage := by
    simp [State.usageNow, charged, PerClient.get]
  have idle : s.idleNow = s.acct.idleTime := by simp [State.idleNow, charged]
  have penalty : s.chargedPenalty = s.acct.penalty := by simp [State.chargedPenalty, charged]
  rw [State.setMode, charged, if_neg other, State.closeCharge, usage, idle, penalty]

theorem exec_guardEndSettling (high : s.resetn = true) (settling : s.arb.mode = .settling c g)
    (ended : reached s.clock g = true) : exec .guardEndSettling s = .next (s.grant c) := by
  simp only [exec, execGuardEndSettling, s.whenRunning_high _ high, settling, ended, if_true]

theorem exec_guardEndParking (high : s.resetn = true) (parking : s.arb.mode = .parking g)
    (ended : reached s.clock g = true) : exec .guardEndParking s = .next (s.setMode .free) := by
  simp only [exec, execGuardEndParking, s.whenRunning_high _ high, parking, ended, if_true]

end GuardEnd

/-- Settles O36. -/
theorem guardEndGrantsOrFrees : Obligations.GuardEndGrantsOrFrees := by
  refine ⟨fun s g high parking ended follows => ?free, fun s c g high settling ended follows => ?grant,
    fun s g parking early => ?parkingOn, fun s c g settling early => ?settlingOn⟩
  case free =>
    have charged : s.acct.charged = .guardTime := by rw [follows, parking]; rfl
    rw [exec_guardEndParking high parking ended, State.setMode_of_guard charged (by simp [accountOf])]
    rfl
  case grant =>
    have charged : s.acct.charged = .guardTime := by rw [follows, settling]; rfl
    have entered := State.setMode_of_guard (m := .held c) charged (by simp [accountOf])
    refine ⟨_, exec_guardEndSettling high settling ended, ?_, ?_, ?_, ?_, ?_, ?_, ?_, ?_, ?_, ?_⟩ <;>
      rw [State.grant, entered]
    · rfl
    · rfl
    · rfl
    · simp [State.gnt, high]
    · exact State.turnHolding_waitingClaims
    · rfl
    · exact fun d hd => PerClient.get_set_other _ _ _ _ hd
    · exact fun u d k f waits bound hf =>
        (PerClient.get_set_same _ _ _).trans (State.grantLive_waiting waits bound hf)
    · exact fun f hf hw => State.turnHolding_flow_kept hf hw
    · exact fun f hf hw => State.turnHolding_flow_won hf hw
  case parkingOn =>
    rw [exec, execGuardEndParking, State.whenRunning_unchanged]
    simp [parking, early]
  case settlingOn =>
    rw [exec, execGuardEndSettling, State.whenRunning_unchanged]
    simp [settling, early]

end Sys2Proof.Machine
end

section
namespace Sys2Proof.Machine

/-! ## What replies report -/

section Replies

variable {s : State} {c : Client} {arg : BitVec 16}

/-- The lowest bit of a mask is its first channel's, and the rest are the mask from the next channel on. -/
theorem maskBits_succ (avoided : List Nat) (first n : Nat) :
    maskBits avoided first (n + 1) =
      (if first ∈ avoided then 1 else 0) + 2 * maskBits avoided (first + 1) n := by
  simp only [maskBits, List.range_succ_eq_map, List.foldr_cons, List.foldr_map, List.contains_eq_mem,
    decide_eq_true_eq, Nat.add_zero, Nat.succ_eq_add_one, Nat.add_assoc, Nat.add_comm 1]

/-- Bit `i` of a mask is set exactly where its channel is one of the mask's and avoided (R145). -/
theorem maskBits_testBit (avoided : List Nat) (first n i : Nat) :
    (maskBits avoided first n).testBit i = decide (i < n ∧ first + i ∈ avoided) := by
  induction n generalizing first i with
  | zero => simp [maskBits]
  | succ n ih =>
    rw [maskBits_succ]
    cases i with
    | zero => by_cases h : first ∈ avoided <;> simp [h, Nat.testBit_zero, Nat.add_mod]
    | succ i =>
      have rest : ((if first ∈ avoided then 1 else 0) + 2 * maskBits avoided (first + 1) n) / 2 =
          maskBits avoided (first + 1) n := by
        split <;> omega
      rw [Nat.testBit_add_one, rest, ih]
      simp [Nat.add_assoc, Nat.add_comm 1]

/-- A part of a mask the mask has, by its bits (R136, R145). -/
theorem maskPart_bits {avoided : List Nat} {channels part : Nat} (h : 24 * part < channels) :
    ∃ v, maskPart avoided channels part = some v ∧
      ∀ i, i < 24 → v.getLsbD i = decide (24 * part + i < channels ∧ 24 * part + i ∈ avoided) := by
  refine ⟨_, if_neg (Nat.not_le.mpr h), fun i hi => ?_⟩
  have inPart : i < min 24 (channels - 24 * part) ↔ 24 * part + i < channels := by omega
  rw [BitVec.getLsbD_ofNat, maskBits_testBit]
  simp [inPart, hi]

/-- Items 5 to 8 are the four parts of the mask that the argument names (R136, R145). -/
theorem State.fetchData_mask (s : State) (c : Client) (part : Fin 4) (arg : BitVec 16) :
    s.fetchData c (BitVec.ofNat 8 (5 + part.val)) arg = s.maskData c part.val arg := by
  fin_cases part <;> rfl

theorem State.namedMask_sr (h : arg = 1 ∨ arg = 0 ∧ c = .sr) :
    s.namedMask c arg = some (s.channel.srAvoided, 79) := by
  rcases h with rfl | ⟨rfl, rfl⟩ <;> rfl

theorem State.namedMask_ar (h : arg = 2 ∨ arg = 0 ∧ c = .ar) :
    s.namedMask c arg = some (s.channel.arAvoided, 16) := by
  rcases h with rfl | ⟨rfl, rfl⟩ <;> rfl

theorem State.namedMask_none (h : 3 ≤ arg.toNat ∨ arg = 0 ∧ c = .nr) : s.namedMask c arg = none := by
  rcases h with above | ⟨rfl, rfl⟩
  · have one : arg ≠ 1 := fun h => by rw [h] at above; contradiction
    have two : arg ≠ 2 := fun h => by rw [h] at above; contradiction
    have zero : arg ≠ 0 := fun h => by rw [h] at above; contradiction
    unfold State.namedMask
    rw [if_neg one, if_neg two, if_neg zero]
  · rfl

/-- An item above 11 names nothing (R147). -/
theorem State.fetchData_above {item : BitVec 8} (h : 11 < item.toNat) : s.fetchData c item arg = none := by
  obtain ⟨n, above⟩ := Nat.exists_eq_add_of_le' h
  rw [State.fetchData, above]
  rfl

/-- A counter number above 4 names none (R55). -/
theorem flowCounter_above {f : Flow} {n : Nat} (h : 4 < n) : flowCounter f n = none := by
  obtain ⟨k, rfl⟩ := Nat.exists_eq_add_of_le' h
  rfl

theorem State.fetchData_flow_of_named {f : Flow} (h : s.flowNamed c (arg.extractLsb' 0 8).toNat = some f) :
    s.fetchData c 10 arg = (flowCounter f (arg.extractLsb' 8 8).toNat).map fun n => BitVec.ofNat 24 n := by
  have named : s.flowNamed c (flowcountHandle arg) = some f := h
  exact congrArg (Option.bind · _) named

theorem State.fetchData_entry_of_named {e : Entry} (h : s.entryNamed c (arg.extractLsb' 0 8).toNat = some e) :
    s.fetchData c 11 arg =
      some (if arg.getLsbD 8 then BitVec.ofNat 24 (entryStatusCode e.status) else low24 e.start) := by
  have named : s.entryNamed c (fetchEntryNumber arg) = some e := h
  exact congrArg (Option.map _) named

theorem State.entryNamed_iff {n : Nat} {e : Entry} :
    s.entryNamed c n = some e ↔ s.entryAt n = some e ∧ e.owner = c := by
  rw [State.entryNamed, Option.filter_eq_some_iff, beq_iff_eq]

theorem State.captureReply_fetch {item : BitVec 8} (quiet : (s.links.get c).announce = false)
    (h : (s.links.get c).reply = .fetch item arg) :
    s.captureReply c = replyFrame false ((s.links.get c).notices != 0) (fetched (s.fetchData c item arg)).1
      (fetched (s.fetchData c item arg)).2 := by
  rw [State.captureReply, if_neg (by simp [quiet]), h]
  rfl

/-- A word shortened to its lower bits. -/
theorem low24_eq (t : AirTime) : low24 t = t.setWidth 24 :=
  BitVec.setWidth_eq_extractLsb' (by decide) |>.symm

end Replies

/-- Settles O8. -/
theorem capturedReplyContents : Obligations.CapturedReplyContents := by
  refine fun s c => ⟨fun announced => if_pos announced, fun quiet h => ?frameReply, fun r d quiet h => ?answer,
    fun item arg v quiet h hv => ?fetched, fun item arg quiet h hv => ?nothing, fun _ => ?time, fun _ => rfl,
    fun _ => ?notes, fun _ => rfl, fun _ => rfl, fun arg h => ?noFlow, fun arg f h => ?flow, fun arg e h part => ?start,
    fun arg e h part => ?status, fun arg h => ?noEntry, fun n e => State.entryNamed_iff, fun arg f h => ?counters,
    fun arg h => ?noCounters, fun part arg avoided channels h => ?mask, fun part arg h => ?noMask,
    fun item arg above => State.fetchData_above above⟩
  case frameReply =>
    rw [State.captureReply, if_neg (by simp [quiet]), h]
    rfl
  case answer =>
    rw [State.captureReply, if_neg (by simp [quiet]), h]
    rfl
  case fetched =>
    rw [State.captureReply_fetch quiet h, hv]
    rfl
  case nothing =>
    rw [State.captureReply_fetch quiet h, hv]
    rfl
  case time => exact congrArg some (low24_eq s.clock)
  case notes => exact congrArg some (BitVec.ofNat_toNat 24 _)
  case noFlow => exact congrArg (Option.map _) h
  case flow => exact congrArg (Option.map _) h
  case start =>
    rw [State.fetchData_entry_of_named h, part, low24_eq]
    rfl
  case status =>
    rw [State.fetchData_entry_of_named h, part]
    cases e.status <;> rfl
  case noEntry =>
    have named : s.entryNamed c (fetchEntryNumber arg) = none := h
    exact congrArg (Option.map _) named
  case counters =>
    rw [State.fetchData_flow_of_named h]
    exact ⟨fun n => by rw [n]; rfl, fun n => by rw [n]; rfl, fun n => by rw [n]; rfl, fun n => by rw [n]; rfl,
      fun n => by rw [n]; rfl, fun above => by rw [flowCounter_above above]; rfl⟩
  case noCounters =>
    have named : s.flowNamed c (flowcountHandle arg) = none := h
    exact congrArg (Option.bind · _) named
  case mask =>
    have named : s.namedMask c arg = some (avoided, channels) := by
      rcases h with ⟨sr, rfl, rfl⟩ | ⟨ar, rfl, rfl⟩
      · exact State.namedMask_sr sr
      · exact State.namedMask_ar ar
    rw [State.fetchData_mask, State.maskData, named]
    exact ⟨fun past => if_pos past, maskPart_bits⟩
  case noMask =>
    rw [State.fetchData_mask, State.maskData, State.namedMask_none h]
    rfl

end Sys2Proof.Machine
end

section
namespace Sys2Proof.Machine

/-! ## What the arbiter's answers leave of an occurrence's records -/

theorem ArbiterClosed.and {R S : State → State → Prop} (hR : ArbiterClosed R) (hS : ArbiterClosed S) :
    ArbiterClosed fun s t => R s t ∧ S s t where
  refl s := ⟨hR.refl s, hS.refl s⟩
  trans h k := ⟨hR.trans h.1 k.1, hS.trans h.2 k.2⟩
  setMode s m := ⟨hR.setMode s m, hS.setMode s m⟩
  setPosition s c := ⟨hR.setPosition s c, hS.setPosition s c⟩
  turnHolding s c := ⟨hR.turnHolding s c, hS.turnHolding s c⟩
  cutHoldings s c := ⟨hR.cutHoldings s c, hS.cutHoldings s c⟩
  countPreemption s := ⟨hR.countPreemption s, hS.countPreemption s⟩

/-- What an entry that falls due respects as every act of the arbiter does, every waking respects (R68). -/
theorem ArbiterClosed.wake {R : State → State → Prop} (hR : ArbiterClosed R) (due : ∀ s n, R s (State.madeDue s n))
    (s : State) (n : Nat) : R s (s.wake n) := by
  rcases s.wake_cases n with e | ⟨e, _, _, _, ha⟩
  · rw [e]; exact hR.refl s
  · rw [ha]
    exact hR.trans (due s n) (hR.claimArrived _ _)

/-- What of a flow record no grant and no cut changes: its place, and its Missed and Served counters (R42, R55). -/
def Flow.tally (f : Flow) : Nat × Client × Nat × Nat × Nat := (f.slot, f.owner, f.handle, f.missed, f.served)

/-- From `s` to `t` every flow keeps its tally. -/
def SameTallies (s t : State) : Prop := t.flows.map Flow.tally = s.flows.map Flow.tally

/-- The arbiter counts no occurrence missed or served (R55). -/
theorem arbiterClosed_sameTallies : ArbiterClosed SameTallies where
  refl _ := rfl
  trans h k := Eq.trans k h
  setMode s m := by simp [SameTallies]
  setPosition _ _ := rfl
  turnHolding s c := foldl_onSlot_map Flow.tally Flow.won (fun _ => rfl) _ _
  cutHoldings s c := by
    have flows : (s.cutHoldings c).flows = (s.holdingSlots c).foldl (fun fs k => onSlot k Flow.cut fs) s.flows := by
      rw [s.cutHoldings_eq c, foldl_onSlot_cut]
      rfl
    rw [SameTallies, flows]
    exact foldl_onSlot_map Flow.tally Flow.cut (fun _ => rfl) _ _
  countPreemption _ := rfl

/-- From `s` to `t` every flow keeps its tally, no miss and no overstay is counted, and no notice is taken away. -/
def ReportsStand (s t : State) : Prop :=
  SameTallies s t ∧ (t.acct.misses = s.acct.misses ∧ t.acct.overstays = s.acct.overstays) ∧
    ∀ c i, (s.links.get c).notices.getLsbD i = true → (t.links.get c).notices.getLsbD i = true

theorem arbiterClosed_reportsStand : ArbiterClosed ReportsStand :=
  arbiterClosed_sameTallies.and (arbiterClosed_counts.and arbiterClosed_notices)

theorem reportsStand_wake (s : State) (n : Nat) : ReportsStand s (s.wake n) :=
  arbiterClosed_reportsStand.wake (fun _ _ => ⟨rfl, ⟨rfl, rfl⟩, fun _ _ => id⟩) s n

theorem ReportsStand.flow {s t : State} (h : ReportsStand s t) {f : Flow} (hf : f ∈ s.flows) :
    ∃ g ∈ t.flows, g.tally = f.tally := by
  have mem : f.tally ∈ t.flows.map Flow.tally := by rw [h.1]; exact List.mem_map_of_mem hf
  exact List.mem_map.mp mem

/-- From `s` to `t` every SCHEDULED entry stands unchanged. -/
def ScheduledStand (s t : State) : Prop := ∀ x ∈ s.plan, x.status = .scheduled → x ∈ t.plan

/-- The arbiter grants DUE entries and cuts HOLDING ones: a SCHEDULED entry it leaves alone. -/
theorem arbiterClosed_scheduledStand : ArbiterClosed ScheduledStand where
  refl _ := fun _ hx _ => hx
  trans h k := fun x hx scheduled => k x (h x hx scheduled) scheduled
  setMode s m := by simp +contextual [ScheduledStand]
  setPosition _ _ := fun _ hx _ => hx
  turnHolding s c := fun x hx scheduled =>
    List.mem_map.mpr ⟨x, hx, if_neg fun granted => by simp [scheduled] at granted⟩
  cutHoldings s c := fun x hx scheduled => by
    rw [s.cutHoldings_eq c]
    exact List.mem_filterMap.mpr ⟨x, hx, if_neg fun cut => by simp [Entry.isHolding, scheduled] at cut⟩
  countPreemption _ := fun _ hx _ => hx

theorem bookedIn.absent {es es' : List Entry} {n : Nat} (h : bookedIn es es') (gone : ∀ x ∈ es, x.number ≠ n) :
    ∀ x ∈ es', x.number ≠ n := by
  intro x hx number
  obtain ⟨y, hy, same⟩ := h x hx
  exact gone y hy ((congrArg Prod.fst same).symm.trans number)

/-! ## The plan after an occurrence -/

/-- The entry after an occurrence that was not its last (R73). -/
def Entry.advanced (e : Entry) (now : AirTime) : Entry :=
  { e with start := e.advancedStart now, count := e.count - 1, status := .scheduled, pendingOffset := none }

section PlanAfter

variable {s t : State} {e x : Entry} {n : Nat}

theorem State.planAfter_numbers (h : numbersDiffer s.plan) (n : Nat) : numbersDiffer (s.planAfter n) := by
  refine h.filterMap _ fun x y hy => ?_
  split at hy
  · exact (Entry.advance_owner hy).1
  · cases hy; rfl

theorem State.planAfter_mem_other (hx : x ∈ s.planAfter n) (other : x.number ≠ n) : x ∈ s.plan := by
  obtain ⟨y, hy, same⟩ := List.mem_filterMap.mp hx
  split at same
  · rename_i named
    exact absurd ((Entry.advance_owner same).1.trans named) other
  · cases same; exact hy

theorem State.planAfter_mem_advanced (he : e ∈ s.plan) (more : e.count ≠ 1) :
    e.advanced s.clock ∈ s.planAfter e.number :=
  List.mem_filterMap.mpr ⟨e, he, (if_pos rfl).trans (if_neg more)⟩

/-- An entry on its last count retires (R73). -/
theorem State.planAfter_retired (numbers : numbersDiffer s.plan) (he : e ∈ s.plan) (last : e.count = 1) :
    ∀ x ∈ s.planAfter e.number, x.number ≠ e.number := by
  intro x hx named
  obtain ⟨y, hy, same⟩ := List.mem_filterMap.mp hx
  split at same
  · rename_i number
    obtain rfl := numbers.eq_of_number hy he number
    exact absurd (same.symm.trans (if_pos last)) nofun
  · rename_i other
    cases same; exact other named

/-- A number in no use falls due nowhere. -/
theorem State.wake_of_absent (gone : ∀ x ∈ s.plan, x.number ≠ n) : s.wake n = s :=
  State.wake_early fun x hx => absurd (State.entryAt_some hx).2 (gone x (State.entryAt_some hx).1)

/-- An entry whose start is still to come does not fall due (R68). -/
theorem State.wake_of_early (numbers : numbersDiffer s.plan) (hx : x ∈ s.plan)
    (early : reached s.clock x.start = false) : s.wake x.number = s := by
  refine State.wake_early fun y hy => ?_
  obtain ⟨mem, number⟩ := State.entryAt_some hy
  rwa [numbers.eq_of_number mem hx number]

/-- Where an occurrence's end retires its entry, or the entry's next start is still to come, nothing falls due, whatever
the arbiter has answered. -/
theorem State.wake_planAfter (numbers : numbersDiffer s.plan) (he : e ∈ s.plan)
    (quiet : e.count = 1 ∨ reached s.clock (e.advancedStart s.clock) = false) (clock : t.clock = s.clock)
    (distinct : numbersDiffer t.plan) (booked : bookedIn (s.planAfter e.number) t.plan)
    (stand : ∀ x ∈ s.planAfter e.number, x.status = .scheduled → x ∈ t.plan) : t.wake e.number = t := by
  by_cases last : e.count = 1
  · exact State.wake_of_absent (booked.absent (State.planAfter_retired numbers he last))
  · have early : reached t.clock (e.advanced s.clock).start = false := by
      rw [clock]
      exact quiet.resolve_left last
    exact State.wake_of_early (x := e.advanced s.clock) distinct
      (stand _ (State.planAfter_mem_advanced he last) rfl) early

end PlanAfter

/-- A notice reads the client's state and writes its link: beside other tables it is given alike. -/
theorem State.giveNotice_writes (s t : State) (sup : t.sup = s.sup) (links : t.links = s.links) (c : Client)
    (n : Notice) : t.giveNotice c n = { t with links := (s.giveNotice c n).links } := by
  rw [t.giveNotice_eq c n]
  unfold State.giveNotice State.onLink
  rw [sup, links]
  split
  · rw [links]
  · rfl

theorem State.giveNotice_relinked (s : State) (c : Client) (n : Notice) (x : PerClient Link) :
    { s.giveNotice c n with links := x } = { s with links := x } := by
  unfold State.giveNotice
  split <;> rfl

/-! ## MISS -/

section Miss

variable {s u : State} {e : Entry} {n : Fin 32}

/-- The missed occurrence recorded and its entry advanced, before the arbiter's answer (R53, R55, R71, R73). -/
def State.missRecorded (s : State) (e : Entry) : State :=
  { (if e.count = 1 then (s.giveNotice e.owner .missed).giveNotice e.owner .ended
      else s.giveNotice e.owner .missed) with
    flows := onSlot e.flow
      (fun f => { f with streak := min 15 (f.streak + 1), missed := min 65535 (f.missed + 1) }) s.flows
    acct := { s.acct with misses := min 65535 (s.acct.misses + 1) }
    plan := s.planAfter e.number }

/-- Whether the miss raises the flow's streak, which stops at 15 (R53). -/
def State.streakRises (s : State) (e : Entry) : Bool :=
  match s.flowAt e.flow with
  | none => false
  | some f => decide (f.streak < Config.streakMax)

theorem State.streakRises_iff : s.streakRises e = true ↔ ∃ f, s.flowAt e.flow = some f ∧ f.streak < 15 := by
  unfold State.streakRises
  cases s.flowAt e.flow with
  | none => simp
  | some f =>
    refine ⟨fun low => ⟨f, rfl, of_decide_eq_true low⟩, ?_⟩
    rintro ⟨_, ⟨⟩, low⟩
    exact decide_eq_true low

/-- The arbiter's answers to a miss: to the departure, and to the raised streak where asked (R53, R98, R103). -/
def State.missAnswered (s : State) (e : Entry) (check : Bool) : State :=
  (s.claimsLeft (s.missRecorded e) e.owner).stateCheckIf check

theorem State.missRecorded_eq (s : State) (e : Entry) :
    (((s.onFlow e.flow Flow.missedOne).countMiss).giveNotice e.owner .missed).advanceEntry e = s.missRecorded e := by
  have told : ((s.onFlow e.flow Flow.missedOne).countMiss).giveNotice e.owner .missed =
      { (s.onFlow e.flow Flow.missedOne).countMiss with links := (s.giveNotice e.owner .missed).links } :=
    s.giveNotice_writes (s.onFlow e.flow Flow.missedOne).countMiss rfl rfl _ _
  rw [told, State.advanceEntry_eq, State.missRecorded, State.giveNoticeIf]
  by_cases last : e.count = 1
  · have ended : (s.giveNotice e.owner .missed).giveNotice e.owner .ended =
        { s with links := ((s.giveNotice e.owner .missed).giveNotice e.owner .ended).links } :=
      ((s.giveNotice e.owner .missed).giveNotice_eq e.owner .ended).trans (s.giveNotice_relinked e.owner .missed _)
    rw [if_pos (decide_eq_true last), if_pos last, ended]
    exact (s.giveNotice e.owner .missed).giveNotice_writes _ (by simp) (by rfl) _ _
  · rw [if_neg (by simp [last]), if_neg last, s.giveNotice_eq e.owner .missed]
    rfl

theorem State.missOccurrence_eq (s : State) (e : Entry) :
    s.missOccurrence e =
      (s.missAnswered e (s.streakRises e && (s.missRecorded e).flowWaits e.owner e.flow)).wake e.number := by
  rw [State.missAnswered, ← s.missRecorded_eq e]
  rfl

theorem exec_miss (high : s.resetn = true) (he : s.entryAt n.val = some e) (due : e.status = .due)
    (missed : reached s.clock (e.start + BitVec.ofNat 32 (e.slide + 1)) = true) :
    exec (.miss n) s = .next (s.missOccurrence e) := by
  have now : e.missDue s.clock = true := by
    rw [Entry.missDue, e.isDue_iff.mpr due]
    exact missed
  simp only [exec, execMiss, s.whenRunning_high _ high, he, now, if_true]

/-- Before the miss deadline nothing is missed. -/
theorem exec_miss_early (he : s.entryAt n.val = some e)
    (early : reached s.clock (e.start + BitVec.ofNat 32 (e.slide + 1)) = false) : exec (.miss n) s = .next s := by
  have notYet : e.missDue s.clock = false := by
    have deadline : reached s.clock e.missDeadline = false := early
    rw [Entry.missDue, deadline, Bool.and_false]
  rw [exec, execMiss, State.whenRunning_unchanged]
  simp [he, notYet]

theorem State.missRecorded_clock (s : State) (e : Entry) : (s.missRecorded e).clock = s.clock := by
  unfold State.missRecorded
  split <;> simp

theorem State.missAnswered_clock (s : State) (e : Entry) (p : Bool) : (s.missAnswered e p).clock = s.clock :=
  ((State.stateCheckIf_keeps _ p).clock.trans (State.claimsLeft_keeps _ _ _).clock).trans (s.missRecorded_clock e)

/-- What every single act of the arbiter does holds of its answers to a miss. -/
theorem ArbiterClosed.missAnswered {R : State → State → Prop} (hR : ArbiterClosed R) (s : State) (e : Entry)
    (p : Bool) : R (s.missRecorded e) (s.missAnswered e p) :=
  hR.trans (hR.claimsLeft s _ e.owner) (hR.stateCheckIf _ p)

theorem State.missAnswered_numbers (numbers : numbersDiffer s.plan) (p : Bool) :
    numbersDiffer (s.missAnswered e p).plan :=
  arbiterClosed_numbers.missAnswered s e p (State.planAfter_numbers numbers e.number)

theorem State.missAnswered_booked (p : Bool) : bookedIn (s.planAfter e.number) (s.missAnswered e p).plan :=
  (arbiterClosed_keepsAllBut fun _ => False).missAnswered s e p .bookings id

theorem State.missAnswered_quiet (numbers : numbersDiffer s.plan) (he : e ∈ s.plan)
    (quiet : e.count = 1 ∨ reached s.clock (e.advancedStart s.clock) = false) (p : Bool) :
    (s.missAnswered e p).wake e.number = s.missAnswered e p :=
  State.wake_planAfter numbers he quiet (s.missAnswered_clock e p) (State.missAnswered_numbers numbers p)
    (State.missAnswered_booked p) (arbiterClosed_scheduledStand.missAnswered s e p)

theorem State.missed_booked (p : Bool) :
    bookedIn (s.planAfter e.number) ((s.missAnswered e p).wake e.number).plan :=
  (((arbiterClosed_keepsAllBut fun _ => False).missAnswered s e p).trans (keeps_wake e.number)) .bookings id

/-- What a miss has recorded stands (R53, R55, R71). -/
theorem State.missed_reports (p : Bool) :
    ReportsStand (s.missRecorded e) ((s.missAnswered e p).wake e.number) :=
  arbiterClosed_reportsStand.trans (arbiterClosed_reportsStand.missAnswered s e p) (reportsStand_wake _ _)

/-- The notices of a miss: MISSED, and ENDED where the entry retires (R40, R71). -/
theorem State.missRecorded_notices (present : (s.sup.get e.owner).state ≠ .detached) :
    ((s.missRecorded e).links.get e.owner).notices.getLsbD 3 = true ∧
      (e.count = 1 → ((s.missRecorded e).links.get e.owner).notices.getLsbD 1 = true) := by
  unfold State.missRecorded
  by_cases last : e.count = 1 <;> simp [last, State.giveNotice_bit, present, noticeBit]

/-- The advanced entry stands in the plan after a miss: SCHEDULED, fallen due or granted (R68, R73). -/
theorem State.missed_advanced (numbers : numbersDiffer s.plan) (he : e ∈ s.plan) (more : e.count ≠ 1) (p : Bool) :
    ∃ x ∈ ((s.missAnswered e p).wake e.number).plan, x.number = e.number ∧ x.count = e.count - 1 ∧
      x.start = e.advancedStart s.clock ∧ x.pendingOffset = none := by
  have mem : e.advanced s.clock ∈ (s.missAnswered e p).plan :=
    arbiterClosed_scheduledStand.missAnswered s e p _ (State.planAfter_mem_advanced he more) rfl
  have distinct := State.missAnswered_numbers (e := e) numbers p
  have own : (s.missAnswered e p).ownNumbers e.owner [e.number] := by
    refine ⟨distinct, fun m hm x hx number => ?_⟩
    rw [List.mem_singleton.mp hm] at number
    rw [distinct.eq_of_number hx mem number]
    rfl
  obtain ⟨y, hy, follows, _⟩ := State.wake_own own (List.mem_singleton_self _) mem rfl
  refine ⟨y, hy, ?_⟩
  rw [follows.1]
  exact ⟨rfl, rfl, rfl, rfl⟩

end Miss

/-! ## OCCURRENCE_END -/

section Serve

variable {s : State} {e : Entry} {g : AirTime} {n : Fin 32}

/-- The served occurrence recorded and its entry advanced, before it can fall due again (R55, R70, R73). -/
def State.serveRecorded (s : State) (e : Entry) : State :=
  { (if e.count = 1 then s.giveNotice e.owner .ended else s) with
    flows := onSlot e.flow (fun f => { f with served := min 65535 (f.served + 1) }) s.flows
    plan := s.planAfter e.number }

theorem State.serveOccurrence_eq (s : State) (e : Entry) :
    s.serveOccurrence e = s.claimsLeft ((s.serveRecorded e).wake e.number) e.owner := by
  have recorded : (s.onFlow e.flow Flow.servedOne).advanceEntry e = s.serveRecorded e := by
    unfold State.serveRecorded
    rw [State.advanceEntry_eq, State.giveNoticeIf]
    by_cases last : e.count = 1
    · rw [if_pos (decide_eq_true last), if_pos last, s.giveNotice_eq]
      exact s.giveNotice_writes _ (by rfl) (by rfl) _ _
    · rw [if_neg (by simp [last]), if_neg last]
      rfl
  rw [State.serveOccurrence, recorded]

theorem exec_occurrenceEnd (high : s.resetn = true) (he : s.entryAt n.val = some e) (holds : e.status = .holding g)
    (ended : reached s.clock (e.occurrenceEnd g) = true) :
    exec (.occurrenceEnd n) s = .next (s.serveOccurrence e) := by
  have now : e.endDue s.clock = true := by rw [Entry.endDue, holds]; exact ended
  simp only [exec, execOccurrenceEnd, s.whenRunning_high _ high, he, now, if_true]

/-- Before the occurrence's end nothing is served. -/
theorem exec_occurrenceEnd_early (he : s.entryAt n.val = some e) (holds : e.status = .holding g)
    (early : reached s.clock (e.occurrenceEnd g) = false) : exec (.occurrenceEnd n) s = .next s := by
  have notYet : e.endDue s.clock = false := by rw [Entry.endDue, holds]; exact early
  rw [exec, execOccurrenceEnd, State.whenRunning_unchanged]
  simp [he, notYet]

theorem State.serveRecorded_clock (s : State) (e : Entry) : (s.serveRecorded e).clock = s.clock := by
  unfold State.serveRecorded
  split <;> simp

theorem State.serveRecorded_quiet (numbers : numbersDiffer s.plan) (he : e ∈ s.plan)
    (quiet : e.count = 1 ∨ reached s.clock (e.advancedStart s.clock) = false) :
    (s.serveRecorded e).wake e.number = s.serveRecorded e :=
  State.wake_planAfter numbers he quiet (s.serveRecorded_clock e) (State.planAfter_numbers numbers e.number)
    (bookedIn_refl _) fun _ hx _ => hx

/-- What an occurrence's end has recorded stands (R55, R70). -/
theorem State.served_reports :
    ReportsStand (s.serveRecorded e) (s.claimsLeft ((s.serveRecorded e).wake e.number) e.owner) :=
  arbiterClosed_reportsStand.trans (reportsStand_wake _ _) (arbiterClosed_reportsStand.claimsLeft _ _ _)

theorem State.served_booked :
    bookedIn (s.planAfter e.number) (s.claimsLeft ((s.serveRecorded e).wake e.number) e.owner).plan :=
  ((keeps_wake (W := fun _ => False) (s := s.serveRecorded e) e.number).trans
    (keeps_claimsLeft s e.owner)) .bookings id

/-- ENDED where the last occurrence has been served (R40, R73). -/
theorem State.serveRecorded_ended (present : (s.sup.get e.owner).state ≠ .detached) (last : e.count = 1) :
    ((s.serveRecorded e).links.get e.owner).notices.getLsbD 1 = true := by
  unfold State.serveRecorded
  simp [last, State.giveNotice_bit, present, noticeBit]

/-- The state in which the served occurrence's successor has joined its holder's holding (R68, R69). -/
def State.rejoined (s : State) (e : Entry) : State :=
  ((s.serveRecorded e).madeDue e.number).turnHolding e.owner

/-- An advanced start already reached: the new occurrence joins its holder (R68, R69, R73). -/
theorem State.serveRecorded_rejoins (numbers : numbersDiffer s.plan) (he : e ∈ s.plan) (more : e.count ≠ 1)
    (start : reached s.clock (e.advancedStart s.clock) = true) (held : s.arb.mode = .held e.owner) :
    (s.serveRecorded e).wake e.number = s.rejoined e := by
  have distinct : numbersDiffer (s.serveRecorded e).plan := State.planAfter_numbers numbers e.number
  have found : (s.serveRecorded e).entryAt e.number = some (e.advanced s.clock) :=
    distinct.entryAt (State.planAfter_mem_advanced he more)
  have ready : (e.advanced s.clock).ready (s.serveRecorded e).clock := by
    rw [s.serveRecorded_clock e]
    exact ⟨rfl, start⟩
  have mode : ((s.serveRecorded e).madeDue e.number).arb.mode = .held e.owner := by
    rw [← held]
    unfold State.serveRecorded State.madeDue
    rw [if_neg more]
    rfl
  rw [State.wake_ready found ready]
  exact State.claimArrived_holder mode

/-- The successor holds from now on (R69). -/
theorem State.rejoined_holds (he : e ∈ s.plan) (more : e.count ≠ 1) :
    { e.advanced s.clock with status := .holding s.clock } ∈ (s.rejoined e).plan := by
  have due : { e.advanced s.clock with status := .due } ∈ ((s.serveRecorded e).madeDue e.number).plan := by
    rw [State.madeDue, State.onEntry_plan, onNumber_some]
    exact List.mem_map.mpr ⟨_, State.planAfter_mem_advanced he more, if_pos rfl⟩
  refine List.mem_map.mpr ⟨_, due, ?_⟩
  have clock : ((s.serveRecorded e).madeDue e.number).clock = s.clock := s.serveRecorded_clock e
  rw [clock]
  exact if_pos ⟨rfl, rfl⟩

/-- An entry of another client stands as it did. -/
theorem State.rejoined_other (numbers : numbersDiffer s.plan) (he : e ∈ s.plan) {y : Entry}
    (hy : y ∈ (s.rejoined e).plan) (other : y.owner ≠ e.owner) : y ∈ s.plan := by
  obtain ⟨x, hx, rfl⟩ := List.mem_map.mp hy
  have sameOwner : (Entry.grantTo e.owner ((s.serveRecorded e).madeDue e.number).clock x).owner = x.owner :=
    congrArg (fun k => k.2.1) (Entry.grantTo_booking _ _ x)
  rw [sameOwner] at other
  have kept : Entry.grantTo e.owner ((s.serveRecorded e).madeDue e.number).clock x = x :=
    if_neg fun granted => other granted.1
  rw [kept]
  rw [State.madeDue, State.onEntry_plan, onNumber_some] at hx
  obtain ⟨z, hz, same⟩ := List.mem_map.mp hx
  have hz : z ∈ s.planAfter e.number := hz
  by_cases named : z.number = e.number
  · obtain ⟨w, hw, booking⟩ := bookedIn_onNumber e.number _ (Entry.advance_booking s.clock) s.plan z hz
    simp only [Entry.booking, Prod.mk.injEq] at booking
    obtain ⟨number, owner, _⟩ := booking
    have sameEntry : w = e := numbers.eq_of_number hw he (number.symm.trans named)
    rw [if_pos named] at same
    subst same
    exact absurd (owner.trans (by rw [sameEntry])) other
  · rw [if_neg named] at same
    subst same
    exact State.planAfter_mem_other hz named

/-- No claim of another client waits that did not wait before. -/
theorem State.rejoined_waitingClaims (numbers : numbersDiffer s.plan) (he : e ∈ s.plan) (more : e.count ≠ 1)
    {d : Client} (other : d ≠ e.owner) (none : s.waitingClaims d = []) : (s.rejoined e).waitingClaims d = [] := by
  obtain ⟨live, due⟩ := List.append_eq_nil_iff.mp none
  have noDue := State.dueSlots_nil_iff.mp (List.map_eq_nil_iff.mp due)
  have recorded : (s.serveRecorded e).live = s.live := by
    unfold State.serveRecorded
    rw [if_neg more]
  have sameLive : (s.rejoined e).live.get d = s.live.get d :=
    (PerClient.get_set_other _ _ _ _ other).trans (congrArg (PerClient.get · d) recorded)
  have liveNone : (s.rejoined e).liveWaiting d = .none := by
    unfold State.liveWaiting at live ⊢
    rw [sameLive]
    exact Option.toList_eq_nil_iff.mp live
  have dueNone : (s.rejoined e).dueSlots d = [] := State.dueSlots_nil_iff.mpr fun y hy waits =>
    noDue y (State.rejoined_other numbers he hy (by rw [waits.1]; exact other)) waits
  rw [State.waitingClaims, liveNone, dueNone]
  rfl

/-- With nobody else waiting the holder's new occurrence holds on (R69, R98, R101). -/
theorem State.claimsLeft_rejoined (numbers : numbersDiffer s.plan) (he : e ∈ s.plan) (more : e.count ≠ 1)
    (held : s.arb.mode = .held e.owner) (none : ∀ d, d ≠ e.owner → s.waitingClaims d = []) :
    s.claimsLeft (s.rejoined e) e.owner = s.rejoined e := by
  have mode : (s.rejoined e).arb.mode = .held e.owner := by
    rw [← held]
    unfold State.rejoined State.madeDue State.serveRecorded
    rw [if_neg more]
    rfl
  have holds : (s.rejoined e).holdingClaims e.owner ≠ [] := by
    have slot : e.flow ∈ (s.rejoined e).heldSlots e.owner :=
      List.mem_map.mpr ⟨_, List.mem_filter.mpr
        ⟨State.rejoined_holds he more, by simp [Entry.advanced, Entry.isHolding]⟩, rfl⟩
    exact List.ne_nil_of_mem (List.mem_append_right _ (List.mem_map_of_mem slot))
  rw [State.claimsLeft_held_some s mode holds, ← State.stateCheck_held mode,
    State.stateCheck_unopposed mode fun d hd => State.rejoined_waitingClaims numbers he more hd (none d hd)]

end Serve

section Occurrences

variable {e : Entry}

theorem Entry.advancedStart_none (h : e.pendingOffset = none) (now : AirTime) :
    e.advancedStart now = e.start + BitVec.ofNat 32 e.period := by
  rw [Entry.advancedStart, h]
  rfl

theorem Entry.advancedStart_some {o : BitVec 13} (h : e.pendingOffset = some o) (now : AirTime) :
    e.advancedStart now =
      if reached now (e.start + BitVec.ofNat 32 e.period + o.signExtend 32) then now
      else e.start + BitVec.ofNat 32 e.period + o.signExtend 32 := by
  rw [Entry.advancedStart, h]
  rfl

end Occurrences

/-- Settles O28. -/
theorem occurrencesAreMissedOrServed : Obligations.OccurrencesAreMissedOrServed := by
  refine ⟨fun s n e high he due missed plan => ?miss, fun s n e g high he holds ended plan => ?serve,
    fun s n e he early => exec_miss_early he early,
    fun s n e g he holds early => exec_occurrenceEnd_early he holds early, fun e g => rfl,
    fun e now => ⟨fun h => Entry.advancedStart_none h now, fun o h => Entry.advancedStart_some h now⟩⟩
  case miss =>
    have numbers : numbersDiffer s.plan := plan.imp Nat.ne_of_lt
    obtain ⟨mem, _⟩ := State.entryAt_some he
    obtain ⟨p, hp⟩ : ∃ p, p = (s.streakRises e && (s.missRecorded e).flowWaits e.owner e.flow) := ⟨_, rfl⟩
    have reports := State.missed_reports (s := s) (e := e) p
    have row : exec (.miss n) s = .next ((s.missAnswered e p).wake e.number) := by
      rw [exec_miss high he due missed, s.missOccurrence_eq e, hp]
    refine ⟨s.missRecorded e, _, row, rfl, fun f hf low waits => ?_, fun calm => ?_,
      fun quiet => State.missAnswered_quiet numbers mem quiet false, reports.2.1.1,
      fun present => reports.2.2 _ _ (State.missRecorded_notices present).1, fun f hf slot => ?_,
      fun last => ⟨(State.missed_booked p).absent (State.planAfter_retired numbers mem last),
        fun present => reports.2.2 _ _ ((State.missRecorded_notices present).2 last)⟩,
      fun more => State.missed_advanced numbers mem more p⟩
    · have check : p = true := by rw [hp, State.streakRises_iff.mpr ⟨f, hf, low⟩, waits]; rfl
      rw [check]
      rfl
    · have noCheck : p = false := by
        rw [hp]
        cases rises : s.streakRises e with
        | false => rfl
        | true =>
          obtain ⟨f, hf, low⟩ := State.streakRises_iff.mp rises
          rw [calm f hf low]
          rfl
      rw [noCheck]
      rfl
    · obtain ⟨g, hg, same⟩ := reports.flow (List.mem_map.mpr ⟨f, hf, if_pos slot⟩)
      simp only [Flow.tally, Prod.mk.injEq] at same
      obtain ⟨sameSlot, owner, handle, count, _⟩ := same
      exact ⟨g, hg, sameSlot.trans slot, owner, handle, count⟩
  case serve =>
    have numbers : numbersDiffer s.plan := plan.imp Nat.ne_of_lt
    obtain ⟨mem, _⟩ := State.entryAt_some he
    have reports := State.served_reports (s := s) (e := e)
    have row : exec (.occurrenceEnd n) s =
        .next (s.claimsLeft ((s.serveRecorded e).wake e.number) e.owner) := by
      rw [exec_occurrenceEnd high he holds ended, s.serveOccurrence_eq e]
    refine ⟨s.serveRecorded e, _, row, rfl, rfl,
      fun quiet => by rw [State.serveRecorded_quiet numbers mem quiet], fun f hf slot => ?_,
      fun last => ⟨State.served_booked.absent (State.planAfter_retired numbers mem last),
        fun present => reports.2.2 _ _ (State.serveRecorded_ended present last)⟩,
      fun more early => ?_, fun more start held none => ?_⟩
    · obtain ⟨g, hg, same⟩ := reports.flow (List.mem_map.mpr ⟨f, hf, if_pos slot⟩)
      simp only [Flow.tally, Prod.mk.injEq] at same
      obtain ⟨sameSlot, owner, handle, _, count⟩ := same
      exact ⟨g, hg, sameSlot.trans slot, owner, handle, count⟩
    · rw [State.serveRecorded_quiet numbers mem (.inr early)]
      exact ⟨e.advanced s.clock, arbiterClosed_scheduledStand.claimsLeft s _ e.owner _
        (State.planAfter_mem_advanced mem more) rfl, rfl, rfl, rfl, rfl, rfl⟩
    · rw [State.serveRecorded_rejoins numbers mem more start held,
        State.claimsLeft_rejoined numbers mem more held none]
      exact ⟨_, State.rejoined_holds mem more, rfl, rfl, rfl, rfl, rfl⟩

end Sys2Proof.Machine
end

section
namespace Sys2Proof.Machine

/-! ## The occurrence order -/

section OccurrenceOrder

variable {s : State}

theorem Entry.isExpired_iff (e : Entry) : e.isExpired = true ↔ e.status = .suspended true := by
  unfold Entry.isExpired
  cases e.status <;> simp

/-- Equal distances from the present air time are equal air times. -/
theorem toInt_sub_inj {a b now : AirTime} : (a - now).toInt = (b - now).toInt ↔ a = b := by
  rw [BitVec.toInt_inj, sub_left_inj]

/-- Expired one-shots stand first by number, the other entries by start, base priority and number (R80). -/
theorem State.before_iff (a b : Entry) : s.before a b = true ↔
    (a.status = .suspended true ∧ (b.status = .suspended true → a.number < b.number)) ∨
      (a.status ≠ .suspended true ∧ b.status ≠ .suspended true ∧
        ((a.start - s.clock).toInt < (b.start - s.clock).toInt ∨
          a.start = b.start ∧ (s.baseOf b.flow < s.baseOf a.flow ∨
            s.baseOf a.flow = s.baseOf b.flow ∧ a.number < b.number))) := by
  simp only [← Entry.isExpired_iff, ne_eq]
  unfold State.before
  by_cases ha : a.isExpired = true
  · simp [ha, imp_iff_not_or]
  · by_cases hb : b.isExpired = true
    · simp [ha, hb]
    · by_cases start : a.start = b.start
      · by_cases base : s.baseOf a.flow = s.baseOf b.flow <;> simp [ha, hb, start, base]
      · simp [ha, hb, start]

/-- The place of an entry in the occurrence order, as a key of which the smaller stands first (R80). -/
def State.orderKey (s : State) (e : Entry) : ℕ ×ₗ ℤ ×ₗ ℤ ×ₗ ℕ :=
  if e.isExpired then toLex (0, toLex (0, toLex (0, e.number)))
  else toLex (1, toLex ((e.start - s.clock).toInt, toLex (-s.baseOf e.flow, e.number)))

theorem State.before_iff_orderKey (a b : Entry) : s.before a b = true ↔ s.orderKey a < s.orderKey b := by
  rw [State.before_iff]
  simp only [← Entry.isExpired_iff, ne_eq, State.orderKey]
  by_cases ha : a.isExpired = true <;> by_cases hb : b.isExpired = true <;>
    simp [ha, hb, Prod.Lex.toLex_lt_toLex, toInt_sub_inj, -BitVec.toInt_sub]

theorem State.number_eq_of_orderKey {a b : Entry} (h : s.orderKey a = s.orderKey b) : a.number = b.number := by
  unfold State.orderKey at h
  split at h <;> split at h <;> simp_all

theorem State.before_trans {a b d : Entry} (h : s.before a b = true) (k : s.before b d = true) :
    s.before a d = true := by
  rw [State.before_iff_orderKey] at *
  exact h.trans k

/-- Of two entries of different numbers the one that does not stand before the other stands after it. -/
theorem State.before_of_not_before {a b : Entry} (differ : a.number ≠ b.number) (h : ¬ s.before a b = true) :
    s.before b a = true := by
  rw [State.before_iff_orderKey] at *
  exact lt_of_le_of_ne (not_lt.mp h) fun same => differ (State.number_eq_of_orderKey same).symm

theorem State.insertOrdered_perm (x : Entry) (es : List Entry) : (s.insertOrdered x es).Perm (x :: es) := by
  induction es with
  | nil => exact .refl _
  | cons y ys ih =>
    unfold State.insertOrdered
    split
    · exact .refl _
    · exact (ih.cons y).trans (.swap x y ys)

theorem State.insertOrdered_pairwise {x : Entry} {es : List Entry}
    (sorted : es.Pairwise fun a b => s.before a b = true) (differ : ∀ e ∈ es, x.number ≠ e.number) :
    (s.insertOrdered x es).Pairwise fun a b => s.before a b = true := by
  induction es with
  | nil => exact List.pairwise_singleton _ _
  | cons y ys ih =>
    obtain ⟨first, rest⟩ := List.pairwise_cons.mp sorted
    unfold State.insertOrdered
    split
    · rename_i before
      refine List.pairwise_cons.mpr ⟨fun e he => ?_, sorted⟩
      rcases List.mem_cons.mp he with rfl | later
      · exact before
      · exact State.before_trans before (first e later)
    · rename_i after
      refine List.pairwise_cons.mpr ⟨fun e he => ?_, ih rest fun e he => differ e (List.mem_cons_of_mem y he)⟩
      rcases List.mem_cons.mp ((State.insertOrdered_perm x ys).mem_iff.mp he) with rfl | later
      · exact State.before_of_not_before (differ y List.mem_cons_self) after
      · exact first e later

theorem State.foldr_insertOrdered_perm (es : List Entry) : (es.foldr s.insertOrdered []).Perm es := by
  induction es with
  | nil => exact .refl _
  | cons x es ih => exact (State.insertOrdered_perm x _).trans (ih.cons x)

theorem State.foldr_insertOrdered_pairwise {es : List Entry} (numbers : numbersDiffer es) :
    (es.foldr s.insertOrdered []).Pairwise fun a b => s.before a b = true := by
  induction es with
  | nil => exact .nil
  | cons x es ih =>
    obtain ⟨first, rest⟩ := List.pairwise_cons.mp numbers
    exact State.insertOrdered_pairwise (ih rest) fun e he =>
      first e ((State.foldr_insertOrdered_perm es).mem_iff.mp he)

end OccurrenceOrder

/-- Settles O53: `before` is the order of a lexicographic key that tells entries of different numbers apart, so
insertion by it sorts the plan. -/
theorem occurrenceOrderIsSorted : Obligations.OccurrenceOrderIsSorted := fun s =>
  ⟨State.foldr_insertOrdered_perm s.plan,
    fun numbers => State.foldr_insertOrdered_pairwise (numbers.imp Nat.ne_of_lt), State.before_iff⟩

end Sys2Proof.Machine
end

section
namespace Sys2Proof.Machine

/-! ## The arithmetic of a posting -/

/-- `(m + p - 1) / p` is the least number of `p`s that reach `m`: the ceiling of `m / p`. -/
theorem add_pred_div_le_iff {p : ℕ} (hp : 0 < p) (m k : ℕ) : (m + p - 1) / p ≤ k ↔ m ≤ k * p := by
  rw [← Nat.ceilDiv_eq_add_pred_div, ceilDiv_le_iff_le_mul hp, mul_comm]

theorem add_pred_div_bounds {p m : ℕ} (hp : 0 < p) (hm : 0 < m) :
    1 ≤ (m + p - 1) / p ∧ m ≤ (m + p - 1) / p * p ∧ ((m + p - 1) / p - 1) * p < m := by
  have least := add_pred_div_le_iff hp m
  have positive : 1 ≤ (m + p - 1) / p := Nat.pos_of_ne_zero fun none => by
    have covered := (least 0).mp none.le
    omega
  refine ⟨positive, (least _).mp le_rfl, Nat.lt_of_not_le fun fewer => ?_⟩
  have smaller := (least _).mpr fewer
  omega

theorem loadFigure_oneShot (d : ℕ) : loadFigure d 0 = 0 := if_pos rfl

theorem loadFigure_periodic {p : ℕ} (hp : p ≠ 0) (d : ℕ) : loadFigure d p = (d * 1024 + p - 1) / p := if_neg hp

/-- The load figure of an admitted periodic entry is the exact ceiling of its part of the whole air (R60). -/
theorem loadFigure_of_shapeOk {g d p n : ℕ} (shape : shapeOk g d p n = true) (hp : p ≠ 0) :
    1 ≤ loadFigure d p ∧ loadFigure d p ≤ 1024 ∧ d * 1024 ≤ loadFigure d p * p ∧
      (loadFigure d p - 1) * p < d * 1024 := by
  obtain ⟨duration, _, _, _, apart⟩ := (shapeOk_iff g d p n).mp shape
  have period : 0 < p := Nat.pos_of_ne_zero hp
  have within : d + g ≤ p := apart.resolve_left hp
  rw [loadFigure_periodic hp]
  obtain ⟨positive, reaches, tight⟩ := add_pred_div_bounds period (show 0 < d * 1024 by omega)
  exact ⟨positive, (add_pred_div_le_iff period _ _).mpr (by omega), reaches, tight⟩

/-- The trimmed slide keeps an occurrence, its slide and the guard within the period (R63). -/
theorem slide_within_period {g d p n : ℕ} (x : ℕ) (shape : shapeOk g d p n = true) (hp : p ≠ 0) :
    d + min x (slideLimit g d p) + g ≤ p ∧ min x (slideLimit g d p) ≤ 100000 := by
  obtain ⟨_, _, _, _, apart⟩ := (shapeOk_iff g d p n).mp shape
  obtain ⟨most, within⟩ := slideLimit_le g d p
  have fits := within hp
  have guarded := apart.resolve_left hp
  omega

theorem State.trimmedSlide_eq (s : State) (x : Draft) : s.trimmedSlide x =
    if x.period.toNat = 0 then min x.slide.toNat 100000
    else min x.slide.toNat (min 100000 (x.period.toNat - x.duration.toNat - s.policy.guardTime)) := by
  rw [State.trimmedSlide, slideLimit, apply_ite (min x.slide.toNat)]

section ResolveStart

variable {t : AirTime} {start : Value} {slide period delta : ℕ}

/-- The distance of START from the low bits of the present air time (R64). -/
theorem start_sub_low24_toNat (t : AirTime) (start : Value) :
    (start - low24 t).toNat = (start.toNat + 2 ^ 24 - t.toNat % 2 ^ 24) % 2 ^ 24 := by
  rw [low24_eq, BitVec.toNat_sub, BitVec.toNat_setWidth]
  omega

theorem resolveStart_ahead (hd : (start - low24 t).toNat = delta) (ahead : delta < 2 ^ 23) :
    resolveStart t start slide period = .at (t + BitVec.ofNat 32 delta) false := by
  subst hd
  exact if_pos ahead

/-- A START behind the present air time by more than the slide is late or moves on by whole periods (R64). -/
theorem resolveStart_behind (hd : (start - low24 t).toNat = delta) (behind : 2 ^ 23 ≤ delta) :
    resolveStart t start slide period =
      if 2 ^ 24 - delta ≤ slide then .at (t - BitVec.ofNat 32 (2 ^ 24 - delta)) false
      else if period = 0 then .late
      else .at (t - BitVec.ofNat 32 (2 ^ 24 - delta) +
        BitVec.ofNat 32 ((2 ^ 24 - delta + period - 1) / period * period)) true := by
  subst hd
  exact if_neg (Nat.not_lt.mpr behind)

theorem resolveStart_advanced (hd : (start - low24 t).toNat = delta) (behind : 2 ^ 23 ≤ delta)
    (beyond : slide < 2 ^ 24 - delta) (hp : period ≠ 0) :
    ∃ k, 2 ^ 24 - delta ≤ k * period ∧ (k - 1) * period < 2 ^ 24 - delta ∧
      resolveStart t start slide period =
        .at (t - BitVec.ofNat 32 (2 ^ 24 - delta) + BitVec.ofNat 32 (k * period)) true := by
  obtain ⟨_, reaches, least⟩ := add_pred_div_bounds (Nat.pos_of_ne_zero hp) (Nat.zero_lt_of_lt beyond)
  refine ⟨_, reaches, least, ?_⟩
  rw [resolveStart_behind hd behind, if_neg (Nat.not_le.mpr beyond), if_neg hp]

end ResolveStart

/-- Settles O24. -/
theorem postingArithmetic : Obligations.PostingArithmetic := by
  refine ⟨fun g d p n => (shapeOk_iff g d p n).trans (by omega), fun g d p n => loadFigure_of_shapeOk,
    loadFigure_oneShot, fun g d p n x => slide_within_period x, fun g d p => rfl, State.trimmedSlide_eq,
    fun t start slide period delta hd => ?_⟩
  have distance : (start - low24 t).toNat = delta := (start_sub_low24_toNat t start).trans hd.symm
  refine ⟨resolveStart_ahead distance, fun behind within => ?_, fun behind beyond oneShot => ?_,
    resolveStart_advanced distance⟩
  · rw [resolveStart_behind distance behind, if_pos within]
  · rw [resolveStart_behind distance behind, if_neg (Nat.not_le.mpr beyond), if_pos oneShot]

end Sys2Proof.Machine
end

section
namespace Sys2Proof.Machine

/-! ## Suspended entries -/

section Suspended

variable {s : State} {e : Entry} {n m : ℕ}

/-- A change of the entry of a number that keeps numbers leaves the entry of every other number (R58). -/
theorem State.entryAt_onEntry_other (s : State) (g : Entry → Entry) (hg : ∀ e, (g e).number = e.number)
    (other : m ≠ n) : (s.onEntry n fun e => some (g e)).entryAt m = s.entryAt m := by
  unfold State.entryAt
  rw [State.onEntry_plan, onNumber_some]
  induction s.plan with
  | nil => rfl
  | cons e es ih =>
    rw [List.map_cons, List.find?_cons, List.find?_cons, ih]
    by_cases named : e.number = n
    · have skipped : (n == m) = false := by simpa using other.symm
      simp [named, hg, skipped]
    · simp [named]

/-- Where the change leaves the one entry of the number as it is, nothing changes. -/
theorem State.onEntry_unchanged (numbers : numbersDiffer s.plan) (he : s.entryAt n = some e) {g : Entry → Entry}
    (same : g e = e) : (s.onEntry n fun x => some (g x)) = s := by
  obtain ⟨mem, number⟩ := State.entryAt_some he
  have plan : onNumber n (fun x => some (g x)) s.plan = s.plan := by
    rw [onNumber_some]
    refine (List.map_congr_left fun x hx => ?_).trans s.plan.map_id
    split
    · rename_i named
      rw [numbers.eq_of_number hx mem (named.trans number.symm), same]
      rfl
    · rfl
  exact congrArg (fun es => { s with plan := es }) plan

/-- The entry, its start one period on where that step is due (R79). -/
def Entry.stepped (now : AirTime) (e : Entry) : Entry :=
  if e.stepDue now then { e with start := after e.start e.period } else e

/-- The entry, marked expired where its window has ended (R79). -/
def Entry.expired (now : AirTime) (e : Entry) : Entry :=
  if e.expiryDue now then { e with status := .suspended true } else e

theorem Entry.stepped_number (now : AirTime) (e : Entry) : (e.stepped now).number = e.number := by
  unfold Entry.stepped
  split <;> rfl

theorem Entry.expired_number (now : AirTime) (e : Entry) : (e.expired now).number = e.number := by
  unfold Entry.expired
  split <;> rfl

theorem exec_suspendedStep (k : Fin 32) (high : s.resetn = true) :
    exec (.suspendedStep k) s = .next (s.onEntry k.val fun e => some (e.stepped s.clock)) :=
  s.whenRunning_high (fun s => s.onEntry k.val fun e => some (e.stepped s.clock)) high

theorem exec_oneshotExpired (k : Fin 32) (high : s.resetn = true) :
    exec (.oneshotExpired k) s = .next (s.onEntry k.val fun e => some (e.expired s.clock)) :=
  s.whenRunning_high (fun s => s.onEntry k.val fun e => some (e.expired s.clock)) high

theorem exec_suspendedStep_early (k : Fin 32) (numbers : numbersDiffer s.plan) (he : s.entryAt k.val = some e)
    (early : reached s.clock e.start = false) : exec (.suspendedStep k) s = .next s :=
  State.whenRunning_unchanged (f := fun s => s.onEntry k.val fun e => some (e.stepped s.clock))
    (State.onEntry_unchanged (g := Entry.stepped s.clock) numbers he (if_neg (by simp [Entry.stepDue, early])))

end Suspended

/-- Settles O29. -/
theorem suspendedEntriesKeepStepping : Obligations.SuspendedEntriesKeepStepping := by
  refine ⟨fun s k e high he suspended periodic start => ⟨_, exec_suspendedStep k high, rfl, ?_, fun m other =>
      s.entryAt_onEntry_other _ (Entry.stepped_number s.clock) other⟩,
    fun s k e high he suspended oneShot ended => ⟨_, exec_oneshotExpired k high, rfl, ?_, fun m other =>
      s.entryAt_onEntry_other _ (Entry.expired_number s.clock) other⟩,
    fun s k e plan he early => exec_suspendedStep_early k (plan.imp Nat.ne_of_lt) he early⟩
  · have due : e.stepDue s.clock = true := by simp [Entry.stepDue, suspended, periodic, start]
    rw [s.entryAt_onEntry k.val _ (Entry.stepped_number s.clock), he]
    exact congrArg some (if_pos due)
  · have window : reached s.clock e.windowEnd = true := ended
    have due : e.expiryDue s.clock = true := by simp [Entry.expiryDue, suspended, oneShot, window]
    rw [s.entryAt_onEntry k.val _ (Entry.expired_number s.clock), he]
    exact congrArg some (if_pos due)

end Sys2Proof.Machine
end

section
namespace Sys2Proof.Machine

/-! ## POST -/

section Post

variable {s : State} {c : Client} {v : Value} {f : Flow} {d : Draft} {n : ℕ}

theorem exec_post_frozen (h : s.admits c) (frozen : (s.sup.get c).frozen = true) :
    exec (.post c v) s = .next (s.answered c (.answer .locked 0)) := by
  refine (s.takeFrame_admits c _ h).trans ?_
  rw [if_pos (by simp [frozen]), State.frameTaken_refuse]

theorem exec_post_unknown (h : s.plans c) (hf : s.flowNamed c v.toNat = none) :
    exec (.post c v) s = .next (s.answered c (.answer .unknown 0)) := by
  have named : (s.frameTaken c).flowNamed c (wholeHandle v) = none := hf
  refine (s.takeFrame_admits c _ h.1).trans ?_
  rw [if_neg (by simp [h.2]), named]
  exact congrArg _ (s.frameTaken_refuse c .unknown)

theorem exec_post (h : s.plans c) (hf : s.flowNamed c v.toNat = some f) :
    exec (.post c v) s = .next ((s.frameTaken c).postDraft c f (s.links.get c).draft) := by
  have named : (s.frameTaken c).flowNamed c (wholeHandle v) = some f := hf
  refine (s.takeFrame_admits c _ h.1).trans ?_
  rw [if_neg (by simp [h.2]), named, State.frameTaken_draft]

/-- The shape step refuses with RANGE (R62). -/
theorem State.postDraft_range
    (shape : shapeOk s.policy.guardTime d.duration.toNat d.period.toNat d.count.toNat = false) :
    s.postDraft c f d = s.refuse c .range := if_pos shape

/-- The capacity step refuses with NO_ROOM (R59). -/
theorem State.postDraft_noRoom
    (shape : shapeOk s.policy.guardTime d.duration.toNat d.period.toNat d.count.toNat = true)
    (full : 16 ≤ s.entryCount c ∨ s.freeEntry = none) : s.postDraft c f d = s.refuse c .noRoom := by
  unfold State.postDraft
  rw [if_neg (by simp [shape])]
  split
  · rfl
  · rename_i room
    rw [full.resolve_left room]

/-- The start step refuses with LATE (R64). -/
theorem State.postDraft_late
    (shape : shapeOk s.policy.guardTime d.duration.toNat d.period.toNat d.count.toNat = true)
    (room : s.entryCount c < 16) (free : s.freeEntry ≠ none)
    (late : resolveStart s.clock d.start (s.trimmedSlide d) d.period.toNat = .late) :
    s.postDraft c f d = s.refuse c .late := by
  obtain ⟨n, free⟩ := Option.ne_none_iff_exists'.mp free
  simp [State.postDraft, shape, Config.entriesPerClient, room, free, late]

/-- With shape, capacity and start in order the load step decides (R65). -/
theorem State.postDraft_at {start : AirTime} {advanced : Bool}
    (shape : shapeOk s.policy.guardTime d.duration.toNat d.period.toNat d.count.toNat = true)
    (room : s.entryCount c < 16) (free : s.freeEntry = some n)
    (resolved : resolveStart s.clock d.start (s.trimmedSlide d) d.period.toNat = .at start advanced) :
    s.postDraft c f d =
      if s.loadAdmits c (loadFigure d.duration.toNat d.period.toNat) then
        s.commitPost c (postedEntry n c f.slot d (s.trimmedSlide d) start)
          (decide (s.trimmedSlide d < d.slide.toNat)) advanced
      else (s.setPortNotice .refused).refuse c .load := by
  simp [State.postDraft, shape, Config.entriesPerClient, room, free, resolved]

/-- REFUSED beside an answered frame (R65). -/
theorem State.frameTaken_refuse_reported (s : State) (c : Client) (r : Result) :
    ((s.frameTaken c).setPortNotice .refused).refuse c r =
      { s.answered c (.answer r 0) with port := { s.port with flags := s.port.flags ||| 0x200 } } :=
  congrArg (fun t : State => { t with port := { s.port with flags := s.port.flags ||| 0x200 } })
    (s.frameTaken_refuse c r)

/-- The lowest free number is a number of the plan in no entry's use, below which every number is used (R59). -/
theorem State.freeEntry_iff (s : State) (k : ℕ) :
    s.freeEntry = some k ↔ k < 32 ∧ (∀ e ∈ s.plan, e.number ≠ k) ∧ ∀ j, j < k → ∃ e ∈ s.plan, e.number = j := by
  rw [State.freeEntry, List.find?_range_eq_some]
  simp only [Bool.not_eq_true', List.any_eq_false, List.mem_range, Bool.not_not, List.any_eq_true, beq_iff_eq,
    Config.planEntries]
  exact and_left_comm

/-- The CONTESTED test, its overlap as two comparisons of air times (R67). -/
theorem State.contested_iff (s : State) (x : Entry) : s.contested x = true ↔
    ∃ e ∈ s.plan, e.owner ≠ x.owner ∧ e.isSuspended = false ∧ s.baseOf x.flow ≤ s.baseOf e.flow ∧
      later (after e.start (e.duration + e.slide)) x.start = true ∧
      later (after x.start x.duration) e.start = true := by
  simp [State.contested, overlap, and_assoc]

/-- A new entry whose start is still to come stays SCHEDULED: the entry of its number is itself (R66, R68). -/
theorem State.wake_inserted {x : Entry} (free : s.freeEntry = some x.number) (early : reached s.clock x.start = false) :
    ({ s with plan := insertEntry x s.plan } : State).wake x.number = { s with plan := insertEntry x s.plan } := by
  refine State.wake_early fun y hy => ?_
  obtain ⟨mem, number⟩ := State.entryAt_some hy
  rcases (mem_insertEntry x y s.plan).mp mem with rfl | old
  · exact early
  · exact absurd number (State.freeEntry_free free y old)

end Post

/-- Settles O23. -/
theorem postRefusalsComeInOrder : Obligations.PostRefusalsComeInOrder := by
  refine ⟨fun s c v => exec_post_frozen, fun s c v => exec_post_unknown, fun s c v f d h hf hd => ?_⟩
  subst hd
  rw [exec_post h hf]
  refine ⟨fun shape => ?range, fun shape full => ?noRoom, fun shape room free late => ?late,
    fun start adv shape room free resolved heavy => ?load⟩
  case range =>
    rw [State.postDraft_range (s := s.frameTaken c) shape, State.frameTaken_refuse]
  case noRoom =>
    rw [State.postDraft_noRoom (s := s.frameTaken c) shape full, State.frameTaken_refuse]
  case late =>
    rw [State.postDraft_late (s := s.frameTaken c) shape room free late, State.frameTaken_refuse]
  case load =>
    obtain ⟨n, free⟩ := Option.ne_none_iff_exists'.mp free
    have refused : ¬ (s.frameTaken c).loadAdmits c
        (loadFigure (s.links.get c).draft.duration.toNat (s.links.get c).draft.period.toNat) = true := fun admits => by
      obtain ⟨cap, own, whole⟩ := (s.loadAdmits_iff c _).mp admits
      omega
    rw [State.postDraft_at (s := s.frameTaken c) shape room free resolved, if_neg refused,
      State.frameTaken_refuse_reported]

/-- Settles O22. -/
theorem postCommitsTheBooking : Obligations.PostCommitsTheBooking := by
  refine ⟨fun s c v f n start adv h hf shape room free resolved cap own whole => ?_, State.freeEntry_iff,
    State.contested_iff⟩
  refine ⟨postedEntry n c f.slot (s.links.get c).draft (s.trimmedSlide (s.links.get c).draft) start, rfl, ?_,
    fun early => State.wake_inserted (s := s.frameTaken c) free early⟩
  have admits : (s.frameTaken c).loadAdmits c
      (loadFigure (s.links.get c).draft.duration.toNat (s.links.get c).draft.period.toNat) = true :=
    (s.loadAdmits_iff c _).mpr ⟨cap, own, whole⟩
  rw [exec_post h hf, State.postDraft_at (s := s.frameTaken c) shape room free resolved, if_pos admits]
  simp only [State.commitPost, postData, decide_eq_true_eq]
  rfl

end Sys2Proof.Machine
end

section
namespace Sys2Proof.Machine

/-! ## CANCEL and DROP ENTRY -/

theorem onNumber_none (n : ℕ) (es : List Entry) :
    onNumber n (fun _ => none) es = es.filter fun x => x.number != n := by
  rw [onNumber, ← List.filterMap_eq_filter]
  refine List.filterMap_congr fun e _ => ?_
  by_cases h : e.number = n <;> simp [Option.guard, h]

section Removal

variable {s : State} {c : Client} {v : Value} {b : Byte} {e : Entry} {ended : Bool}

/-- A notice beside another plan. -/
theorem State.giveNotice_withPlan (s : State) (es : List Entry) (c : Client) (n : Notice) :
    ({ s with plan := es } : State).giveNotice c n = { s.giveNotice c n with plan := es } :=
  (s.giveNotice_writes { s with plan := es } rfl rfl c n).trans
    (congrArg (fun t : State => { t with plan := es }) (s.giveNotice_eq c n).symm)

/-- The entry of `e`'s number gone and its owner told where the cause says so, before the arbiter's answer (R74). -/
def State.entryGone (s : State) (e : Entry) (ended : Bool) : State :=
  { s.giveNoticeIf ended e.owner .ended with plan := s.plan.filter fun x => x.number != e.number }

theorem State.removeEntry_eq (s : State) (e : Entry) (ended : Bool) :
    s.removeEntry e ended =
      if e.isDue || e.isHolding then s.claimsLeft (s.entryGone e ended) e.owner else s.entryGone e ended := by
  have gone : (s.onEntry e.number fun _ => none).giveNoticeIf ended e.owner .ended = s.entryGone e ended := by
    rw [State.onEntry, onNumber_none]
    cases ended
    · rfl
    · exact s.giveNotice_withPlan _ _ _
  rw [State.removeEntry, gone, State.afterRemoval]

/-- An entry with no claim on the board goes without an answer of the arbiter (R74). -/
theorem State.removeEntry_offBoard (due : e.isDue = false) (holding : e.isHolding = false) :
    s.removeEntry e ended = s.entryGone e ended := by
  rw [State.removeEntry_eq, if_neg (by simp [due, holding])]

/-- The arbiter answers the departure of an occurrence on the board (R74, R98, R99). -/
theorem State.removeEntry_onBoard (board : e.isDue = true ∨ e.isHolding = true) :
    s.removeEntry e ended = s.claimsLeft (s.entryGone e ended) e.owner := by
  rw [State.removeEntry_eq, if_pos (by simpa using board)]

/-- What every single act of the arbiter does holds of its answer to a removal. -/
theorem ArbiterClosed.removeEntry {R : State → State → Prop} (hR : ArbiterClosed R) (s : State) (e : Entry)
    (ended : Bool) : R (s.entryGone e ended) (s.removeEntry e ended) := by
  rw [State.removeEntry_eq]
  split
  · exact hR.claimsLeft s _ e.owner
  · exact hR.refl _

/-- The number of a removed entry is free (R74). -/
theorem State.removeEntry_frees (s : State) (e : Entry) (ended : Bool) :
    ∀ x ∈ (s.removeEntry e ended).plan, x.number ≠ e.number := by
  have booked : bookedIn (s.entryGone e ended).plan (s.removeEntry e ended).plan :=
    (arbiterClosed_keepsAllBut fun _ => False).removeEntry s e ended .bookings id
  exact booked.absent fun x hx => by simpa using List.of_mem_filter hx

theorem State.removeEntry_port (s : State) (e : Entry) (ended : Bool) : (s.removeEntry e ended).port = s.port := by
  have gone : (s.entryGone e ended).port = s.port := (s.giveNoticeIf_keeps ended e.owner .ended).port
  rw [State.removeEntry_eq]
  split
  · exact (State.claimsLeft_keeps s _ e.owner).port.trans gone
  · exact gone

/-- The owner of a dropped entry has ENDED set unless it is DETACHED (R40, R76). -/
theorem State.removeEntry_ended (present : (s.sup.get e.owner).state ≠ .detached) :
    ((s.removeEntry e true).links.get e.owner).notices.getLsbD 1 = true := by
  refine arbiterClosed_notices.removeEntry s e true _ _ ?_
  have told : ((s.giveNotice e.owner .ended).links.get e.owner).notices.getLsbD 1 = true := by
    simp [State.giveNotice_bit, present, noticeBit]
  exact told

theorem exec_cancel (h : s.plans c) (he : s.entryNamed c v.toNat = some e) :
    exec (.cancel c v) s = .next (((s.frameTaken c).removeEntry e false).answer c .ok 0) := by
  have named : (s.frameTaken c).entryNamed c (wholeEntry v) = some e := he
  refine (s.takeFrame_admits c _ h.1).trans ?_
  rw [if_neg (by simp [h.2]), named]

theorem exec_dropEntry (high : s.resetn = true) (he : s.entryAt b.toNat = some e) :
    exec (.dropEntry b) s = .next { s.removeEntry e true with port := s.port.wrote .ok [] } := by
  simp only [exec, execDropEntry, s.whenRunning_high _ high, he, State.finishWrite_eq, State.removeEntry_port]

theorem exec_dropEntry_free (high : s.resetn = true) (he : s.entryAt b.toNat = none) :
    exec (.dropEntry b) s = .next { s with port := s.port.refused .range } := by
  simp only [exec, execDropEntry, s.whenRunning_high _ high, he, State.refuseWrite_eq]

end Removal

/-- Settles O26. -/
theorem cancelAndDropRemoveTheEntry : Obligations.CancelAndDropRemoveTheEntry := by
  refine ⟨fun s c v e h he => ?cancel, fun s c v e h he due holding => ?cancelOff, fun s c v e h he board => ?cancelOn,
    fun s b e high he board => ?dropOn, fun s b e high he => ?drop, fun s b e high he due holding => ?dropOff,
    fun s b => exec_dropEntry_free⟩
  case cancel =>
    obtain ⟨found, _⟩ := State.entryNamed_some he
    obtain ⟨_, number⟩ := State.entryAt_some found
    refine ⟨_, exec_cancel h he, ?_, ?_⟩
    · rw [← number]
      exact (s.frameTaken c).removeEntry_frees e false
    · simp [State.answer, State.onLink]
  case cancelOff =>
    obtain ⟨found, _⟩ := State.entryNamed_some he
    obtain ⟨_, number⟩ := State.entryAt_some found
    rw [exec_cancel h he, State.removeEntry_offBoard due holding, ← number]
    exact congrArg _ (s.frameTaken_answer_plan c .ok 0 _)
  case cancelOn =>
    obtain ⟨found, owner⟩ := State.entryNamed_some he
    obtain ⟨_, number⟩ := State.entryAt_some found
    rw [exec_cancel h he, State.removeEntry_onBoard board, owner, ← number]
    rfl
  case dropOn =>
    obtain ⟨_, number⟩ := State.entryAt_some he
    rw [exec_dropEntry high he, State.removeEntry_onBoard board, ← number]
    rfl
  case drop =>
    obtain ⟨_, number⟩ := State.entryAt_some he
    refine ⟨_, exec_dropEntry high he, ?_, State.removeEntry_ended, rfl⟩
    rw [← number]
    exact s.removeEntry_frees e true
  case dropOff =>
    obtain ⟨_, number⟩ := State.entryAt_some he
    rw [exec_dropEntry high he, State.removeEntry_offBoard due holding, ← number]
    rfl

end Sys2Proof.Machine
end

section
/-!
# The arbiter's family: the claim board, the switch and the policy store, and the statements about the arbiter's rows

Sections: the claims on the board, the board under the arbiter's acts and under the rows, what a row leaves of the
switch, the policy store and the masks, then the statements about single rows.
-/

namespace Sys2Proof.Machine

/-! ## The claims on the board -/

section Claims

variable {s t : State} {c : Client}

/-- A client's waiting claims are its WAITING live claim and its DUE entries (R84). -/
theorem State.mem_waitingClaims (s : State) (c : Client) (k : Nat) (u : Bool) : (k, u) ∈ s.waitingClaims c ↔
    (∃ d, (s.live.get c).state = .waiting u d) ∧ (s.live.get c).binding = some k ∨
      u = false ∧ ∃ e ∈ s.plan, e.owner = c ∧ e.status = .due ∧ e.flow = k := by
  have live : (k, u) ∈ (s.liveWaiting c).toList ↔
      (∃ d, (s.live.get c).state = .waiting u d) ∧ (s.live.get c).binding = some k := by
    unfold State.liveWaiting
    cases (s.live.get c).state <;> cases (s.live.get c).binding <;> simp [and_comm, eq_comm]
  have due : (k, u) ∈ (s.dueSlots c).map (fun k => (k, false)) ↔
      u = false ∧ ∃ e ∈ s.plan, e.owner = c ∧ e.status = .due ∧ e.flow = k := by
    simp only [State.dueSlots, List.mem_map, List.mem_filter, Bool.and_eq_true, beq_iff_eq, Entry.isDue_iff]
    constructor
    · rintro ⟨_, ⟨e, ⟨he, owner, status⟩, rfl⟩, same⟩
      cases same
      exact ⟨rfl, e, he, owner, status, rfl⟩
    · rintro ⟨rfl, e, he, owner, status, rfl⟩
      exact ⟨_, ⟨e, ⟨he, owner, status⟩, rfl⟩, rfl⟩
  rw [State.waitingClaims, List.mem_append, live, due]

/-- A client's holding claims are its HOLDING live claim and its HOLDING entries (R84). -/
theorem State.mem_holdingClaims (s : State) (c : Client) (k : Nat) (u : Bool) : (k, u) ∈ s.holdingClaims c ↔
    (∃ a d, (s.live.get c).state = .holding u a d) ∧ (s.live.get c).binding = some k ∨
      u = false ∧ ∃ e ∈ s.plan, e.owner = c ∧ (∃ g, e.status = .holding g) ∧ e.flow = k := by
  have live : (k, u) ∈ (s.liveHolding c).toList ↔
      (∃ a d, (s.live.get c).state = .holding u a d) ∧ (s.live.get c).binding = some k := by
    unfold State.liveHolding
    cases (s.live.get c).state <;> cases (s.live.get c).binding <;> simp [and_comm, eq_comm]
  have held : (k, u) ∈ (s.heldSlots c).map (fun k => (k, false)) ↔
      u = false ∧ ∃ e ∈ s.plan, e.owner = c ∧ (∃ g, e.status = .holding g) ∧ e.flow = k := by
    simp only [State.heldSlots, List.mem_map, List.mem_filter, Bool.and_eq_true, beq_iff_eq, Entry.isHolding_iff]
    constructor
    · rintro ⟨_, ⟨e, ⟨he, owner, status⟩, rfl⟩, same⟩
      cases same
      exact ⟨rfl, e, he, owner, status, rfl⟩
    · rintro ⟨rfl, e, he, owner, status, rfl⟩
      exact ⟨_, ⟨e, ⟨he, owner, status⟩, rfl⟩, rfl⟩
  rw [State.holdingClaims, List.mem_append, live, held]

/-- The client has a waiting claim on the board. -/
def State.waits (s : State) (c : Client) : Prop := s.waitingClaims c ≠ []

/-- The client has a holding claim on the board. -/
def State.holds (s : State) (c : Client) : Prop := s.holdingClaims c ≠ []

/-- The owner and the state of every entry of the plan. -/
def State.standings (s : State) : List (Client × EntryStatus) := s.plan.map fun e => (e.owner, e.status)

theorem State.mem_standings {x : EntryStatus} :
    (c, x) ∈ s.standings ↔ ∃ e ∈ s.plan, e.owner = c ∧ e.status = x := by
  simp [State.standings]

/-- The live claim waits on the board: it is WAITING and bound (R84). -/
def LiveClaim.waits (l : LiveClaim) : Prop := (∃ u d, l.state = .waiting u d) ∧ l.binding ≠ none

/-- The live claim holds on the board: it is HOLDING and bound (R84). -/
def LiveClaim.holds (l : LiveClaim) : Prop := (∃ u a d, l.state = .holding u a d) ∧ l.binding ≠ none

/-- An entry in this state is on the board (R84). -/
def EntryStatus.onBoard : EntryStatus → Prop
  | .due => True
  | .holding _ => True
  | _ => False

theorem State.waits_iff : s.waits c ↔ (s.live.get c).waits ∨ (c, .due) ∈ s.standings := by
  unfold State.waits LiveClaim.waits
  rw [Ne, List.eq_nil_iff_forall_not_mem, not_forall_not, State.mem_standings]
  constructor
  · rintro ⟨⟨k, u⟩, hx⟩
    rcases (s.mem_waitingClaims c k u).mp hx with ⟨⟨d, state⟩, binding⟩ | ⟨_, e, he, owner, status, _⟩
    · exact .inl ⟨⟨u, d, state⟩, by simp [binding]⟩
    · exact .inr ⟨e, he, owner, status⟩
  · rintro (⟨⟨u, d, state⟩, bound⟩ | ⟨e, he, owner, status⟩)
    · obtain ⟨k, binding⟩ := Option.ne_none_iff_exists'.mp bound
      exact ⟨(k, u), (s.mem_waitingClaims c k u).mpr (.inl ⟨⟨d, state⟩, binding⟩)⟩
    · exact ⟨(e.flow, false), (s.mem_waitingClaims c _ _).mpr (.inr ⟨rfl, e, he, owner, status, rfl⟩)⟩

theorem State.holds_iff : s.holds c ↔ (s.live.get c).holds ∨ ∃ g, (c, .holding g) ∈ s.standings := by
  unfold State.holds LiveClaim.holds
  rw [Ne, List.eq_nil_iff_forall_not_mem, not_forall_not]
  simp only [State.mem_standings]
  constructor
  · rintro ⟨⟨k, u⟩, hx⟩
    rcases (s.mem_holdingClaims c k u).mp hx with ⟨⟨a, d, state⟩, binding⟩ | ⟨_, e, he, owner, ⟨g, status⟩, _⟩
    · exact .inl ⟨⟨u, a, d, state⟩, by simp [binding]⟩
    · exact .inr ⟨g, e, he, owner, status⟩
  · rintro (⟨⟨u, a, d, state⟩, bound⟩ | ⟨g, e, he, owner, status⟩)
    · obtain ⟨k, binding⟩ := Option.ne_none_iff_exists'.mp bound
      exact ⟨(k, u), (s.mem_holdingClaims c k u).mpr (.inl ⟨⟨a, d, state⟩, binding⟩)⟩
    · exact ⟨(e.flow, false), (s.mem_holdingClaims c _ _).mpr (.inr ⟨rfl, e, he, owner, ⟨g, status⟩, rfl⟩)⟩

/-! ### A client's standing before and after an act -/

/-- The client stands on the board in `t` as in `s`. -/
structure State.SameStanding (s t : State) (c : Client) : Prop where
  waits : t.waits c ↔ s.waits c
  holds : t.holds c ↔ s.holds c

/-- The client has come to no new standing on the board from `s` to `t`. -/
structure State.LessStanding (s t : State) (c : Client) : Prop where
  waits : t.waits c → s.waits c
  holds : t.holds c → s.holds c

theorem State.SameStanding.refl (s : State) (c : Client) : s.SameStanding s c := ⟨.rfl, .rfl⟩

theorem State.SameStanding.of_claims (liveWaits : (t.live.get c).waits ↔ (s.live.get c).waits)
    (liveHolds : (t.live.get c).holds ↔ (s.live.get c).holds)
    (entries : ∀ x, x.onBoard → ((c, x) ∈ t.standings ↔ (c, x) ∈ s.standings)) : s.SameStanding t c := by
  refine ⟨?_, ?_⟩
  · rw [State.waits_iff, State.waits_iff, liveWaits, entries .due trivial]
  · rw [State.holds_iff, State.holds_iff, liveHolds]
    exact or_congr_right (exists_congr fun g => entries (.holding g) trivial)

theorem State.LessStanding.of_claims (liveWaits : (t.live.get c).waits → (s.live.get c).waits)
    (liveHolds : (t.live.get c).holds → (s.live.get c).holds)
    (entries : ∀ x, x.onBoard → (c, x) ∈ t.standings → (c, x) ∈ s.standings) : s.LessStanding t c := by
  refine ⟨fun h => ?_, fun h => ?_⟩
  · exact State.waits_iff.mpr ((State.waits_iff.mp h).imp liveWaits (entries .due trivial))
  · exact State.holds_iff.mpr ((State.holds_iff.mp h).imp liveHolds fun ⟨g, held⟩ => ⟨g, entries _ trivial held⟩)

/-- Only the live claims and the owners and states of the entries count. -/
theorem State.SameStanding.of_eq (live : t.live = s.live) (standings : t.standings = s.standings) (c : Client) :
    s.SameStanding t c := .of_claims (by rw [live]) (by rw [live]) fun x _ => by rw [standings]

/-- An update of the plan that leaves each entry of the client in its state, or changes one off the board into another
off the board or removes it, leaves the client's standing as it is. -/
theorem State.SameStanding.filterMap {f : Entry → Option Entry} (live : t.live.get c = s.live.get c)
    (plan : t.plan = s.plan.filterMap f)
    (same : ∀ e ∈ s.plan, e.owner = c →
      (∃ y, f e = some y ∧ y.status = e.status) ∨ ¬ e.status.onBoard ∧ ∀ y, f e = some y → ¬ y.status.onBoard)
    (owner : ∀ e ∈ s.plan, ∀ y, f e = some y → y.owner = e.owner) : s.SameStanding t c := by
  refine .of_claims (by rw [live]) (by rw [live]) fun x hx => ?_
  rw [State.mem_standings, State.mem_standings, plan]
  constructor
  · rintro ⟨y, hy, own, rfl⟩
    obtain ⟨e, he, hf⟩ := List.mem_filterMap.mp hy
    have own : e.owner = c := (owner e he y hf).symm.trans own
    rcases same e he own with ⟨z, hz, status⟩ | ⟨_, off⟩
    · cases hf.symm.trans hz
      exact ⟨e, he, own, status.symm⟩
    · exact absurd hx (off y hf)
  · rintro ⟨e, he, own, rfl⟩
    rcases same e he own with ⟨y, hf, status⟩ | ⟨off, _⟩
    · exact ⟨y, List.mem_filterMap.mpr ⟨e, he, hf⟩, (owner e he y hf).trans own, status⟩
    · exact absurd hx off

/-- An update of the plan that puts no entry of the client on the board gives the client no new standing. -/
theorem State.LessStanding.filterMap {f : Entry → Option Entry} (live : t.live.get c = s.live.get c)
    (plan : t.plan = s.plan.filterMap f)
    (less : ∀ e ∈ s.plan, ∀ y, f e = some y → y.owner = c → y.status.onBoard → y.status = e.status)
    (owner : ∀ e ∈ s.plan, ∀ y, f e = some y → y.owner = e.owner) : s.LessStanding t c := by
  refine .of_claims (by rw [live]; exact id) (by rw [live]; exact id) fun x hx => ?_
  rw [State.mem_standings, State.mem_standings, plan]
  rintro ⟨y, hy, own, rfl⟩
  obtain ⟨e, he, hf⟩ := List.mem_filterMap.mp hy
  exact ⟨e, he, (owner e he y hf).symm.trans own, (less e he y hf own hx).symm⟩

end Claims
end Sys2Proof.Machine
end

section
namespace Sys2Proof.Machine

/-! ## The board that the arbiter's state calls for -/

/-- A client's waiting claims may stand on the board in this state of the arbiter: it has a next holder, or another
client holds the air (R85). -/
def ArbiterMode.leavesWaiting (m : ArbiterMode) (c : Client) : Prop :=
  (∃ n g, m = .settling n g) ∨ ∃ h, m = .held h ∧ c ≠ h

theorem ArbiterMode.holder_eq_some {m : ArbiterMode} {c : Client} : m.holder = some c ↔ m = .held c := by
  cases m <;> simp [ArbiterMode.holder]

theorem ArbiterMode.next_eq_some {m : ArbiterMode} {c : Client} : m.next = some c ↔ ∃ g, m = .settling c g := by
  cases m <;> simp [ArbiterMode.next]

/-- The board of the arbiter's state, while an answer of the arbiter may be due: the claims of `left` may have left the
board, and a claim of `arrived` have arrived on it (R84, R85). -/
structure State.Board (left arrived : Option Client) (s : State) : Prop where
  holder : ∀ c, s.holds c → s.arb.mode = .held c
  waiter : ∀ c, s.waits c → arrived = some c ∨ s.arb.mode.leavesWaiting c
  next : ∀ n g, s.arb.mode = .settling n g → left = some n ∨ s.waits n
  held : ∀ h, s.arb.mode = .held h → left = some h ∨ s.holds h

theorem State.boardFollows_iff (s : State) : s.boardFollows ↔ s.Board none none := by
  constructor
  · intro h
    unfold State.boardFollows at h
    cases hm : s.arb.mode with
    | free =>
      rw [hm] at h
      exact ⟨fun c hc => absurd (h c).2 hc, fun c hc => absurd (h c).1 hc, by simp [hm], by simp [hm]⟩
    | parking g =>
      rw [hm] at h
      exact ⟨fun c hc => absurd (h c).2 hc, fun c hc => absurd (h c).1 hc, by simp [hm], by simp [hm]⟩
    | settling n g =>
      rw [hm] at h
      obtain ⟨waits, holds⟩ := h
      refine ⟨fun c hc => absurd (holds c) hc, fun _ _ => .inr (.inl ⟨n, g, hm⟩), fun m e hme => .inr ?_, by simp [hm]⟩
      cases hm.symm.trans hme
      exact waits
    | held x =>
      rw [hm] at h
      obtain ⟨holds, waits, others⟩ := h
      refine ⟨fun c hc => ?_, fun c hc => .inr (.inr ⟨x, hm, ?_⟩), by simp [hm], fun y hy => .inr ?_⟩
      · by_contra other
        exact hc (others c fun same => other (same ▸ hm))
      · rintro rfl
        exact hc waits
      · cases hm.symm.trans hy
        exact holds
  · intro h
    have waits : ∀ c, ¬ s.arb.mode.leavesWaiting c → s.waitingClaims c = [] := fun c hc =>
      not_not.mp fun hw => hc ((h.waiter c hw).resolve_left nofun)
    have holds : ∀ c, s.arb.mode ≠ .held c → s.holdingClaims c = [] := fun c hc =>
      not_not.mp fun hh => hc (h.holder c hh)
    unfold State.boardFollows
    cases hm : s.arb.mode with
    | free => exact fun c => ⟨waits c (by simp [hm, ArbiterMode.leavesWaiting]), holds c (by simp [hm])⟩
    | parking g => exact fun c => ⟨waits c (by simp [hm, ArbiterMode.leavesWaiting]), holds c (by simp [hm])⟩
    | settling n g => exact ⟨(h.next n g hm).resolve_left nofun, fun c => holds c (by simp [hm])⟩
    | held x =>
      exact ⟨(h.held x hm).resolve_left nofun, waits x (by simp [hm, ArbiterMode.leavesWaiting]),
        fun c hc => holds c (by simp [hm, hc.symm])⟩

/-! ## The board under the arbiter's acts -/

section Acts

variable {s t : State} {c d : Client} {x y l a : Option Client}

theorem State.setMode_standing (s : State) (m : ArbiterMode) (c : Client) : s.SameStanding (s.setMode m) c :=
  .of_eq (by simp) (by simp [State.standings]) c

theorem State.settleToward_standing (s : State) (d c : Client) : s.SameStanding (s.settleToward d) c :=
  .of_eq (by simp [State.settleToward]) (by simp [State.standings, State.settleToward]) c

theorem State.settleToward_mode (s : State) (d : Client) :
    (s.settleToward d).arb.mode = .settling d s.newGuard := s.setMode_mode _

/-- A grant or a join leaves the other clients' claims as they are (R96). -/
theorem State.turnHolding_standing (s : State) (hd : d ≠ c) : s.SameStanding (s.turnHolding c) d := by
  refine .filterMap (f := fun e => some (e.grantTo c s.clock)) (PerClient.get_set_other _ _ _ _ hd)
    (List.filterMap_eq_map' ▸ rfl) (fun e _ own => ?_) fun e _ y hy => ?_
  · exact .inl ⟨e, by rw [Entry.grantTo, if_neg fun granted => hd (own.symm.trans granted.1)], rfl⟩
  · cases hy
    unfold Entry.grantTo
    split <;> rfl

theorem State.turnHolding_not_waits (s : State) (c : Client) : ¬ (s.turnHolding c).waits c :=
  fun waits => waits State.turnHolding_waitingClaims

/-- A client with a claim holds after its grant or join (R96). -/
theorem State.turnHolding_holds (h : s.waits c ∨ s.holds c) : (s.turnHolding c).holds c := by
  have live : (s.turnHolding c).live.get c = s.grantLive (s.live.get c) := PerClient.get_set_same _ _ _
  have plan : (s.turnHolding c).plan = s.plan.map (Entry.grantTo c s.clock) := rfl
  rw [State.waits_iff, State.holds_iff] at h
  rw [State.holds_iff, live]
  unfold LiveClaim.waits LiveClaim.holds at *
  rcases h with (⟨⟨u, d, state⟩, bound⟩ | due) | (⟨⟨u, a, d, state⟩, bound⟩ | ⟨g, held⟩)
  · obtain ⟨k, binding⟩ := Option.ne_none_iff_exists'.mp bound
    exact .inl (by simp [State.grantLive, state, binding])
  · obtain ⟨e, he, owner, status⟩ := State.mem_standings.mp due
    refine .inr ⟨s.clock, State.mem_standings.mpr ⟨e.grantTo c s.clock, ?_, ?_⟩⟩
    · exact plan ▸ List.mem_map_of_mem he
    · simp [Entry.grantTo, owner, status]
  · exact .inl (by simp [State.grantLive, state, bound])
  · obtain ⟨e, he, owner, status⟩ := State.mem_standings.mp held
    refine .inr ⟨g, State.mem_standings.mpr ⟨e.grantTo c s.clock, ?_, ?_⟩⟩
    · exact plan ▸ List.mem_map_of_mem he
    · simp [Entry.grantTo, owner, status]

theorem State.waits_of_pick {ok : Client → Bool} {w : Nat} (h : s.pick ok = some (c, w)) : s.waits c := by
  intro none
  have weight := (State.pick_some h).2.1
  rw [(s.waitingWeight_eq_none_iff c).mpr none] at weight
  cases weight

theorem State.not_waits_of_pick_none {ok : Client → Bool} (h : s.pick ok = none) (hc : ok c = true) : ¬ s.waits c := by
  have best := s.pick_bestOf ok
  rw [h] at best
  exact fun waits => waits ((s.waitingWeight_eq_none_iff c).mp (best c (Client.mem_all c) hc))

/-- Nobody on the board, in a state of the arbiter at rest. -/
theorem State.Board.at_rest (holds : ∀ c, ¬ s.holds c) (waits : ∀ c, ¬ s.waits c)
    (rest : s.arb.mode = .free ∨ ∃ g, s.arb.mode = .parking g) : s.Board x y := by
  refine ⟨fun c hc => absurd hc (holds c), fun c hc => absurd hc (waits c), fun n g hm => ?_, fun h hm => ?_⟩ <;>
    rcases rest with e | ⟨_, e⟩ <;> cases e.symm.trans hm

/-- A next holder who waits, and nobody who holds. -/
theorem State.Board.settling {g : AirTime} (mode : s.arb.mode = .settling c g) (holds : ∀ d, ¬ s.holds d)
    (waits : s.waits c) : s.Board x y := by
  refine ⟨fun d hd => absurd hd (holds d), fun _ _ => .inr (.inl ⟨c, g, mode⟩), fun n e hm => ?_, fun h hm => ?_⟩ <;>
    cases mode.symm.trans hm
  exact .inr waits

theorem State.Board.settleToward (holds : ∀ c, ¬ s.holds c) (waits : s.waits d) : (s.settleToward d).Board x y :=
  .settling (s.settleToward_mode d) (fun c => mt (s.settleToward_standing d c).holds.mp (holds c))
    ((s.settleToward_standing d d).waits.mpr waits)

/-- The grant of a waiting client, while nobody holds (R96). -/
theorem State.Board.grant (holds : ∀ d, ¬ s.holds d) (waits : s.waits c) : (s.grant c).Board x y := by
  have entered := s.setMode_standing (.held c)
  have mode : (s.grant c).arb.mode = .held c := s.setMode_mode _
  refine ⟨fun d hd => ?_, fun d hd => .inr (.inr ⟨c, mode, ?_⟩), fun n g hm => ?_, fun h hm => ?_⟩
  · by_cases hdc : d = c
    · exact hdc ▸ mode
    · exact absurd ((entered d).holds.mp ((State.turnHolding_standing _ hdc).holds.mp hd)) (holds d)
  · rintro rfl
    exact State.turnHolding_not_waits _ _ hd
  · cases mode.symm.trans hm
  · cases mode.symm.trans hm
    exact .inr (State.turnHolding_holds (.inl ((entered _).waits.mpr waits)))

theorem State.Board.park (holds : ∀ c, ¬ s.holds c) (waits : ∀ c, ¬ s.waits c) : s.park.Board x y := by
  have entered (m : ArbiterMode) (rest : m = .free ∨ ∃ g, m = .parking g) : (s.setMode m).Board x y :=
    .at_rest (fun c => mt (s.setMode_standing m c).holds.mp (holds c))
      (fun c => mt (s.setMode_standing m c).waits.mp (waits c)) (by simpa using rest)
  rcases s.park_cases with ⟨_, _, e⟩ | ⟨g, _, _, e⟩ | ⟨_, e⟩ <;> rw [e]
  · exact entered _ (.inl rfl)
  · exact entered _ (.inr ⟨g, rfl⟩)
  · obtain ⟨holder, waiter, next, held⟩ := entered (.parking s.newGuard) (.inr ⟨_, rfl⟩)
    exact ⟨holder, waiter, next, held⟩

/-- While nobody holds, a hand-off gives the air to a waiting client or parks where there is none (R94). -/
theorem State.Board.handOff (holds : ∀ c, ¬ s.holds c) : s.handOff.Board x y := by
  rcases s.handOff_cases with ⟨none, e⟩ | ⟨c, w, hp, ⟨_, _, e⟩ | ⟨g, _, _, e⟩ | ⟨_, e⟩⟩ <;> rw [e]
  · exact .park holds fun c => State.not_waits_of_pick_none none rfl
  · exact .grant holds (State.waits_of_pick hp)
  · exact .settling (s.setMode_mode _) (fun d => mt (s.setMode_standing _ d).holds.mp (holds d))
      ((s.setMode_standing _ c).waits.mpr (State.waits_of_pick hp))
  · exact .settleToward holds (State.waits_of_pick hp)

/-- Nobody holds unless a holder has the air. -/
theorem State.Board.nobody_holds (h : s.Board l a) (hm : ∀ c, s.arb.mode ≠ .held c) (c : Client) : ¬ s.holds c :=
  fun holds => hm c (h.holder c holds)

theorem State.Board.displacementCheck (h : s.Board l none) : s.displacementCheck.Board l none := by
  rcases s.displacementCheck_cases with e | ⟨n, g, d, w, hm, hp, _, e⟩ <;> rw [e]
  · exact h
  · exact .settleToward (h.nobody_holds (by simp [hm])) (State.waits_of_pick hp)

/-- A preempted holder holds nothing, and the challenger waits on (R102). -/
theorem State.Board.preempted (h : s.Board l a) (hm : s.arb.mode = .held c) (hd : d ≠ c) (waits : s.waits d) :
    (s.preempted c d).Board x y := by
  have other {e : Client} (he : e ≠ c) : s.SameStanding (s.preempted c d) e :=
    .filterMap (by rw [s.preempted_live c d, PerClient.get_set_other _ _ _ _ he]) (s.preempted_plan c d)
      (fun x _ own => .inl ⟨x, if_neg fun cut => he (own.symm.trans cut.1), rfl⟩) fun _ _ _ => Entry.cutFor_owner
  refine .settling (congrArg Arbiter.mode (s.preempted_arb c d)) (fun e he => ?_) ((other hd).waits.mpr waits)
  by_cases hec : e = c
  · subst hec
    exact he State.preempted_holdingClaims
  · exact hec (ArbiterMode.held.inj (hm.symm.trans (h.holder e ((other hec).holds.mp he)))).symm

theorem State.Board.preemptionCheck (h : s.Board none none) : s.preemptionCheck.Board none none := by
  rcases s.preemptionCheck_cases with e | ⟨c, d, w, hm, hp, _, _, e⟩ <;> rw [e]
  · exact h
  · have cut : (s.preempted c d).Board none none :=
      h.preempted hm (by simpa using (State.pick_some hp).1) (State.waits_of_pick hp)
    rw [State.preempt_eq]
    split
    · exact cut
    · exact cut.displacementCheck

theorem State.Board.endGuard (h : s.Board none none) : s.endGuard.Board none none := by
  unfold State.endGuard
  split
  · rename_i c g hm
    exact .grant (h.nobody_holds (by simp [hm])) ((h.next c g hm).resolve_left nofun)
  · rename_i g hm
    have nobody (c : Client) : ¬ s.waits c := fun waits =>
      ((h.waiter c waits).resolve_left nofun).elim (by simp [hm]) (by simp [hm])
    exact .at_rest (fun c => mt (s.setMode_standing _ c).holds.mp (h.nobody_holds (by simp [hm]) c))
      (fun c => mt (s.setMode_standing _ c).waits.mp (nobody c)) (.inl (s.setMode_mode _))
  · exact h

theorem State.Board.passZeroGuard (h : t.Board none none) (b : State) : (b.passZeroGuard t).Board none none := by
  rcases b.passZeroGuard_cases t with e | ⟨_, _, _, e⟩ <;> rw [e]
  · exact h
  · exact h.endGuard

theorem State.Board.stateCheck (h : s.Board none none) : s.stateCheck.Board none none := by
  rcases s.stateCheck_cases with e | e | e <;> rw [e]
  · exact h.preemptionCheck.passZeroGuard s
  · exact h.displacementCheck.passZeroGuard s
  · exact h

theorem State.Board.stateCheckIf (h : s.Board none none) (p : Bool) : (s.stateCheckIf p).Board none none := by
  cases p
  · exact h
  · exact h.stateCheck

/-- An arrival that the arbiter's state leaves waiting needs no answer. -/
theorem State.Board.unanswered (h : s.Board l (some c)) (hc : s.arb.mode.leavesWaiting c) : s.Board l none :=
  { h with
    waiter := fun d hd => .inr <| (h.waiter d hd).elim (fun same => Option.some.inj same ▸ hc) id }

/-- A claim of the holder arrives: it joins the holding (R95). -/
theorem State.Board.join (h : s.Board l (some c)) (hm : s.arb.mode = .held c) : (s.turnHolding c).Board l none := by
  refine ⟨fun d hd => ?_, fun d hd => .inr (.inr ⟨c, hm, ?_⟩), fun n g settling => ?_, fun x hx => ?_⟩
  · by_cases hdc : d = c
    · exact hdc ▸ hm
    · exact h.holder d ((s.turnHolding_standing hdc).holds.mp hd)
  · rintro rfl
    exact s.turnHolding_not_waits d hd
  · cases hm.symm.trans settling
  · cases hm.symm.trans hx
    exact (h.held c hm).imp id fun holds => State.turnHolding_holds (.inr holds)

/-- The arbiter's answer to an arrival (R95). -/
theorem State.Board.claimArrived (h : s.Board none (some c)) : (s.claimArrived c).Board none none := by
  cases hm : s.arb.mode with
  | free =>
    simp only [State.claimArrived, hm]
    exact (State.Board.handOff (h.nobody_holds (by simp [hm]))).passZeroGuard s
  | parking g =>
    simp only [State.claimArrived, hm]
    exact (State.Board.handOff (h.nobody_holds (by simp [hm]))).passZeroGuard s
  | settling n g =>
    have waiting := h.unanswered (.inl ⟨n, g, hm⟩)
    by_cases next : c = n
    · subst next
      rw [State.claimArrived_next hm]
      exact waiting
    · rw [State.claimArrived_settling hm next]
      exact waiting.displacementCheck.passZeroGuard s
  | held x =>
    by_cases holder : c = x
    · subst holder
      rw [State.claimArrived_holder hm]
      exact h.join hm
    · rw [State.claimArrived_held hm holder]
      exact (h.unanswered (.inr ⟨x, hm, holder⟩)).preemptionCheck.passZeroGuard s

/-- The arbiter's answer to claims that left (R98, R99, R107). -/
theorem State.Board.claimsLeft (h : s.Board (some c) none) (b : State) : (b.claimsLeft s c).Board none none := by
  have answered (next : ∀ g, s.arb.mode = .settling c g → s.waits c) (held : s.arb.mode = .held c → s.holds c) :
      s.Board none none :=
    { h with
      next := fun n g hm => .inr <| (h.next n g hm).elim (fun e => by cases e; exact next g hm) id
      held := fun n hm => .inr <| (h.held n hm).elim (fun e => by cases e; exact held hm) id }
  by_cases holder : s.arb.mode = .held c
  · by_cases holds : s.holds c
    · rw [b.claimsLeft_held_some holder holds]
      exact (answered (fun g hm => by cases holder.symm.trans hm) fun _ => holds).preemptionCheck.passZeroGuard s
    · rw [b.claimsLeft_held_none holder (not_not.mp holds)]
      refine (State.Board.handOff fun d hd => ?_).passZeroGuard s
      cases holder.symm.trans (h.holder d hd)
      exact holds hd
  by_cases next : ∃ g, s.arb.mode = .settling c g
  · obtain ⟨g, hm⟩ := next
    have nobody := h.nobody_holds (by simp [hm])
    by_cases waits : s.waits c
    · have kept := answered (fun _ _ => waits) fun held => absurd held holder
      by_cases fell : (s.waitingWeight c).getD 0 < (b.waitingWeight c).getD 0
      · rw [b.claimsLeft_settling_fell hm waits fell]
        exact kept.displacementCheck.passZeroGuard s
      · rw [b.claimsLeft_settling_kept hm waits (Nat.le_of_not_lt fell)]
        exact kept
    · rw [b.claimsLeft_settling_none hm (not_not.mp waits)]
      exact (State.Board.handOff nobody).passZeroGuard s
  · rw [b.claimsLeft_other]
    · exact answered (fun g hm => absurd ⟨g, hm⟩ next) fun held => absurd held holder
    · rwa [Ne, ArbiterMode.holder_eq_some]
    · rwa [Ne, ArbiterMode.next_eq_some]

end Acts
end Sys2Proof.Machine
end

section
namespace Sys2Proof.Machine

/-! ## The rows that leave the board and the arbiter alone -/

/-- The rows that may reach a live claim, a plan entry, the arbiter's state or the switch. -/
def Instr.reachesBoard : Instr → Bool
  | .resetEnd _ => true
  | .resetnLow => true
  | .attach _ _ => true
  | .detach _ _ => true
  | .closeFlow _ _ => true
  | .reclass _ _ => true
  | .bindLive _ _ => true
  | .post _ _ => true
  | .retime _ _ => true
  | .cancel _ _ => true
  | .reqRise _ => true
  | .reqFall _ => true
  | .prioEdge _ _ => true
  | .agingExpiry _ => true
  | .holdExpiry _ => true
  | .presenceExpiry _ => true
  | .startReached _ => true
  | .miss _ => true
  | .occurrenceEnd _ => true
  | .suspendedStep _ => true
  | .oneshotExpired _ => true
  | .guardEndSettling => true
  | .guardEndParking => true
  | .rollover => true
  | .penaltyCrossing => true
  | .setClass _ _ _ _ _ => true
  | .setClient _ _ _ _ _ => true
  | .setWindow _ _ => true
  | .setArbiter _ _ _ _ _ => true
  | .pinFlow _ _ => true
  | .unpinFlow _ => true
  | .dropEntry _ => true
  | .evict _ => true
  | .revive _ => true
  | .restart => true
  | _ => false

/-- From `s` to `t` the live claims, the plan, the arbiter's state and the switch are as they were. -/
def State.SameBoard (s t : State) : Prop := t.live = s.live ∧ t.plan = s.plan ∧ t.arb = s.arb

section Rows

variable {s t u : State} {c : Client}

theorem State.SameBoard.refl (s : State) : s.SameBoard s := ⟨rfl, rfl, rfl⟩

theorem State.SameBoard.giveNotice (h : s.SameBoard t) (c : Client) (n : Notice) : s.SameBoard (t.giveNotice c n) := by
  rw [State.giveNotice_eq]
  exact h

theorem State.SameBoard.giveNoticeIf (h : s.SameBoard t) (p : Bool) (c : Client) (n : Notice) :
    s.SameBoard (t.giveNoticeIf p c n) := by
  rw [State.giveNoticeIf_eq]
  exact h

theorem State.SameBoard.recompute (h : s.SameBoard t) (note : Option ChannelNote) : s.SameBoard (t.recompute note) := by
  rw [State.recompute_frame]
  exact h

theorem State.SameBoard.presence (h : s.SameBoard t) (c : Client) : s.SameBoard (t.presence c) := by
  unfold State.presence
  split <;> exact h

theorem State.SameBoard.read (h : s.SameBoard t) (bs : Option (List Byte)) : s.SameBoard (t.read bs) := by
  cases bs <;> exact h

theorem State.SameBoard.openFlow (h : s.SameBoard t) (c : Client) (k : Nat) : s.SameBoard (t.openFlow c k) := by
  unfold State.openFlow
  split
  · exact h
  · split
    · exact h
    · split
      · exact h
      · split
        · exact h
        · split <;> exact h

theorem State.SameBoard.whenRunning {f : State → State} (he : s.whenRunning f = .next t) (hf : s.SameBoard (f s)) :
    s.SameBoard t := by
  cases he
  split
  · exact hf
  · exact .refl s

theorem State.SameBoard.frame {act : State → State} (he : (s.whenRunning fun s => s.takeFrame c act) = .next t)
    (ha : ∀ u, s.SameBoard u → s.SameBoard (act u)) : s.SameBoard t := by
  refine .whenRunning he ?_
  unfold State.takeFrame
  split
  · exact ha _ (.presence (t := s.onLink c Link.consume) (.refl s) c)
  · exact .refl s

theorem State.SameBoard.admittedFrame {act : State → State}
    (he : (s.whenRunning fun s => s.takeFrame c fun s => s.ifAdmitted c act) = .next t)
    (ha : ∀ u, s.SameBoard u → s.SameBoard (act u)) : s.SameBoard t := by
  refine .frame he fun u hu => ?_
  unfold State.ifAdmitted
  split
  · exact ha u hu
  · exact hu

theorem State.SameBoard.readRow (readout : State → Option (List Byte))
    (he : (s.whenRunning fun s => s.read (readout s)) = .next t) : s.SameBoard t :=
  .whenRunning he (.read (.refl s) _)

theorem State.SameBoard.fetch {item : Nat} {arg : BitVec 16}
    (he : (s.whenRunning fun s => s.takeFrame c fun s => s.leaveFetch c item arg) = .next t) : s.SameBoard t :=
  .frame he fun _ hu => hu

theorem execReplyCapture_sameBoard (he : execReplyCapture c s = .next t) : s.SameBoard t := by
  refine .whenRunning he ?_
  split
  · dsimp only
    split <;> exact .refl s
  · exact .refl s

theorem execPause_sameBoard (he : execPause c s = .next t) : s.SameBoard t := by
  refine .whenRunning he ?_
  split <;> exact .refl s

theorem execAbortedFrameEnd_sameBoard (he : execAbortedFrameEnd c s = .next t) : s.SameBoard t := by
  refine .whenRunning he ?_
  split <;> exact .refl s

theorem execSelRiseAfterReset_sameBoard (he : execSelRiseAfterReset c s = .next t) : s.SameBoard t := by
  refine .whenRunning he ?_
  split <;> exact .refl s

theorem execFrameRejected_sameBoard (x : FrameFault) (he : execFrameRejected c x s = .next t) : s.SameBoard t := by
  refine .whenRunning he ?_
  split <;> exact .refl s

theorem execSelectTimeout_sameBoard (he : execSelectTimeout c s = .next t) : s.SameBoard t := by
  refine .whenRunning he ?_
  split <;> exact .refl s

theorem execChannelNote_sameBoard {v : Value} (he : execChannelNote c v s = .next t) : s.SameBoard t := by
  refine .admittedFrame he fun u hu => ?_
  split
  · exact hu
  · split
    · exact hu
    · exact hu.recompute _

theorem execParameterFrame_sameBoard {k : BitVec 5} {v : Value} (he : execParameterFrame c k v s = .next t) :
    s.SameBoard t := by
  refine .admittedFrame he fun u hu => ?_
  split <;> exact hu

theorem execFreezePlan_sameBoard {b x : Byte} (he : execFreezePlan b x s = .next t) : s.SameBoard t := by
  refine .whenRunning he ?_
  split
  · exact .refl s
  · exact .giveNoticeIf (t := s.onSup _ _) (.refl s) _ _ _

theorem execStartSurvey_sameBoard {k : Byte} (he : execStartSurvey k s = .next t) : s.SameBoard t := by
  refine .whenRunning he ?_
  split <;> exact .refl s

theorem execStopSurvey_sameBoard (he : execStopSurvey s = .next t) : s.SameBoard t := by
  refine .whenRunning he ?_
  unfold State.SameBoard
  dsimp only [State.finishWrite]
  split <;> exact ⟨rfl, rfl, rfl⟩

theorem execSetAttnMask_sameBoard {m : BitVec 16} (he : execSetAttnMask m s = .next t) : s.SameBoard t :=
  .whenRunning he (.refl s)

theorem execClearNotices_sameBoard {m : BitVec 16} (he : execClearNotices m s = .next t) : s.SameBoard t :=
  .whenRunning he (.refl s)

/-- A row that does not reach the board leaves it, the arbiter's state and the switch as they were. -/
theorem exec_sameBoard (i : Instr) (hi : Instr.reachesBoard i = false) (he : exec i s = .next t) : s.SameBoard t := by
  cases i with
  | replyCapture c => exact execReplyCapture_sameBoard he
  | pause c => exact execPause_sameBoard he
  | abortedFrameEnd c => exact execAbortedFrameEnd_sameBoard he
  | selRiseAfterReset c => exact execSelRiseAfterReset_sameBoard he
  | frameRejected c x => exact execFrameRejected_sameBoard x he
  | selectTimeout c => exact execSelectTimeout_sameBoard he
  | present c v => exact .admittedFrame he fun _ hu => hu
  | openFlow c v => exact .admittedFrame he fun _ hu => hu.openFlow c _
  | channelNote c v => exact execChannelNote_sameBoard he
  | fetchTime c a => exact .fetch he
  | fetchStatus c a => exact .fetch he
  | fetchNotes c a => exact .fetch he
  | fetchAccount c a => exact .fetch he
  | fetchLast c a => exact .fetch he
  | fetchMask c p a => exact .fetch he
  | fetchFlow c a => exact .fetch he
  | fetchFlowcount c a => exact .fetch he
  | fetchEntry c a => exact .fetch he
  | fetchItemAbove11 c x a => exact .fetch he
  | clearNotes c v => exact .frame he fun _ hu => hu
  | parameterFrame c k v => exact execParameterFrame_sameBoard he
  | reservedFrame c k x v => exact .frame he fun _ hu => hu
  | freezePlan b x => exact execFreezePlan_sameBoard he
  | startSurvey k => exact execStartSurvey_sameBoard he
  | stopSurvey => exact execStopSurvey_sameBoard he
  | setAttnMask m => exact execSetAttnMask_sameBoard he
  | clearNotices m => exact execClearNotices_sameBoard he
  | readNotices => exact .readRow (fun s => some s.noticesReadout) he
  | readClient b => exact .readRow (fun s => (clientOfIndex b.toNat).map s.clientReadout) he
  | readAccount b => exact .readRow (fun s => (clientOfIndex b.toNat).map s.accountReadout) he
  | readFlow k => exact .readRow (fun s => (s.flowAt k.toNat).map s.flowReadout) he
  | readEntry n => exact .readRow (fun s => (s.entryAt n.toNat).map entryReadout) he
  | readPlanOrder => exact .readRow (fun s => some s.orderReadout) he
  | readAir => exact .readRow (fun s => some s.airReadout) he
  | readChannel => exact .readRow (fun s => some s.channelReadout) he
  | readSurvey => exact .readRow (fun s => some s.surveyReadout) he
  | discardedWrite x => exact .whenRunning (f := fun s => s.refuseWrite (discardResult x)) he (.refl s)
  | emptyWrite => exact .whenRunning (f := fun s => s) he (.refl s)
  | _ => cases hi

end Rows
end Sys2Proof.Machine
end

section
namespace Sys2Proof.Machine

/-! ## The board under updates of the claims -/

section Updates

variable {s t : State} {c d : Client} {l a : Option Client} {n : Nat} {e : Entry} {f : Entry → Option Entry}

theorem State.Board.same (h : s.Board l a) (mode : t.arb.mode = s.arb.mode) (same : ∀ c, s.SameStanding t c) :
    t.Board l a where
  holder c hc := mode ▸ h.holder c ((same c).holds.mp hc)
  waiter c hc := mode ▸ h.waiter c ((same c).waits.mp hc)
  next n g hm := (h.next n g (mode ▸ hm)).imp_right (same n).waits.mpr
  held c hm := (h.held c (mode ▸ hm)).imp_right (same c).holds.mpr

/-- The board is a matter of the live claims, the plan and the arbiter's state. -/
theorem State.Board.congr (h : s.Board l a) (live : t.live = s.live) (plan : t.plan = s.plan)
    (mode : t.arb.mode = s.arb.mode) : t.Board l a :=
  h.same mode (.of_eq live (by rw [State.standings, State.standings, plan]))

/-- Claims of one client have left the board. -/
theorem State.Board.left (h : s.Board none none) (mode : t.arb.mode = s.arb.mode)
    (other : ∀ d, d ≠ c → s.SameStanding t d) (less : s.LessStanding t c) : t.Board (some c) none := by
  refine ⟨fun d hd => mode ▸ h.holder d ?_, fun d hd => mode ▸ h.waiter d ?_, fun d g hm => ?_, fun d hm => ?_⟩ <;>
    by_cases hdc : d = c
  · exact hdc ▸ less.holds (hdc ▸ hd)
  · exact (other d hdc).holds.mp hd
  · exact hdc ▸ less.waits (hdc ▸ hd)
  · exact (other d hdc).waits.mp hd
  · exact .inl (congrArg some hdc.symm)
  · exact .inr ((other d hdc).waits.mpr ((h.next d g (mode ▸ hm)).resolve_left nofun))
  · exact .inl (congrArg some hdc.symm)
  · exact .inr ((other d hdc).holds.mpr ((h.held d (mode ▸ hm)).resolve_left nofun))

/-- A waiting claim of one client has arrived on the board. -/
theorem State.Board.arrived (h : s.Board l none) (mode : t.arb.mode = s.arb.mode)
    (other : ∀ d, d ≠ c → s.SameStanding t d) (holds : t.holds c ↔ s.holds c) (waits : s.waits c → t.waits c) :
    t.Board l (some c) := by
  have holding (d : Client) : t.holds d ↔ s.holds d := by
    by_cases hdc : d = c
    · exact hdc ▸ holds
    · exact (other d hdc).holds
  refine ⟨fun d hd => mode ▸ h.holder d ((holding d).mp hd), fun d hd => ?_, fun d g hm => ?_, fun d hm => ?_⟩
  · by_cases hdc : d = c
    · exact .inl (congrArg some hdc.symm)
    · exact mode ▸ .inr ((h.waiter d ((other d hdc).waits.mp hd)).resolve_left nofun)
  · refine (h.next d g (mode ▸ hm)).imp_right fun waited => ?_
    by_cases hdc : d = c
    · exact hdc ▸ waits (hdc ▸ waited)
    · exact (other d hdc).waits.mpr waited
  · exact (h.held d (mode ▸ hm)).imp_right (holding d).mpr

/-! ### One client's live claim -/

theorem State.onLive_other (s : State) (f : LiveClaim → LiveClaim) (hd : d ≠ c) : s.SameStanding (s.onLive c f) d := by
  have kept : (s.onLive c f).live.get d = s.live.get d := PerClient.get_set_other _ _ _ _ hd
  exact .of_claims (by rw [kept]) (by rw [kept]) fun _ _ => .rfl

theorem State.Board.onLive (h : s.Board l a) {f : LiveClaim → LiveClaim}
    (waits : (f (s.live.get c)).waits ↔ (s.live.get c).waits)
    (holds : (f (s.live.get c)).holds ↔ (s.live.get c).holds) : (s.onLive c f).Board l a := by
  refine h.same rfl fun d => ?_
  by_cases hdc : d = c
  · subst hdc
    have claim : (s.onLive d f).live.get d = f (s.live.get d) := PerClient.get_set_same _ _ _
    exact .of_claims (by rw [claim, waits]) (by rw [claim, holds]) fun _ _ => .rfl
  · exact s.onLive_other f hdc

/-- A live claim leaves the board (R84). -/
theorem State.Board.onLive_left (h : s.Board none none) {f : LiveClaim → LiveClaim}
    (off : (f (s.live.get c)).onBoard = false) : (s.onLive c f).Board (some c) none := by
  have claim : (s.onLive c f).live.get c = f (s.live.get c) := PerClient.get_set_same _ _ _
  refine h.left rfl (fun d hd => s.onLive_other f hd) (.of_claims ?_ ?_ fun _ _ => id) <;> rw [claim]
  · rintro ⟨⟨u, d, state⟩, _⟩
    simp [LiveClaim.onBoard, state] at off
  · rintro ⟨⟨u, g, d, state⟩, _⟩
    simp [LiveClaim.onBoard, state] at off

/-! ### One entry -/

/-- An act on the entry of a number leaves the standing of the clients that do not own it. -/
theorem State.SameStanding.onNumber (numbers : numbersDiffer s.plan) (he : s.entryAt n = some e) (hc : c ≠ e.owner)
    (live : t.live = s.live) (plan : t.plan = onNumber n f s.plan) (owner : ∀ x y, f x = some y → y.owner = x.owner) :
    s.SameStanding t c := by
  obtain ⟨mem, rfl⟩ := State.entryAt_some he
  refine .filterMap (by rw [live]) plan (fun x hx own => .inl ⟨x, if_neg fun number => hc ?_, rfl⟩) fun x _ y hy => ?_
  · rw [← own, numbers.eq_of_number hx mem number]
  · split at hy
    · exact owner x y hy
    · cases hy; rfl

/-- The claim of an entry leaves the board. -/
theorem State.Board.entryLeft (h : s.Board none none) (numbers : numbersDiffer s.plan) (he : s.entryAt n = some e)
    (mode : t.arb.mode = s.arb.mode) (live : t.live = s.live) (plan : t.plan = onNumber n f s.plan)
    (owner : ∀ x y, f x = some y → y.owner = x.owner) (off : ∀ y, f e = some y → ¬ y.status.onBoard) :
    t.Board (some e.owner) none := by
  obtain ⟨mem, number⟩ := State.entryAt_some he
  refine h.left mode (fun d hd => .onNumber numbers he hd live plan owner)
    (.filterMap (by rw [live]) plan (fun x hx y hy _ on => ?_) fun x _ y hy => ?_) <;> split at hy
  · rename_i same
    obtain rfl := numbers.eq_of_number hx mem (same.trans number.symm)
    exact absurd on (off y hy)
  · cases hy; rfl
  · exact owner x y hy
  · cases hy; rfl

/-- An act that leaves an entry off the board, where it was, changes nobody's standing. -/
theorem State.Board.entryOff (h : s.Board l a) (numbers : numbersDiffer s.plan) (he : s.entryAt n = some e)
    (mode : t.arb.mode = s.arb.mode) (live : t.live = s.live) (plan : t.plan = onNumber n f s.plan)
    (owner : ∀ x y, f x = some y → y.owner = x.owner) (was : ¬ e.status.onBoard)
    (off : ∀ y, f e = some y → ¬ y.status.onBoard) : t.Board l a := by
  obtain ⟨mem, number⟩ := State.entryAt_some he
  refine h.same mode fun c => .filterMap (by rw [live]) plan (fun x hx _ => ?_) fun x _ y hy => ?_
  · by_cases same : x.number = n
    · obtain rfl := numbers.eq_of_number hx mem (same.trans number.symm)
      exact .inr ⟨was, by simpa [same] using off⟩
    · exact .inl ⟨x, if_neg same, rfl⟩
  · split at hy
    · exact owner x y hy
    · cases hy; rfl

/-- A SCHEDULED entry falls DUE: a waiting claim of its owner arrives (R68). -/
theorem State.Board.madeDue (h : s.Board l none) (numbers : numbersDiffer s.plan) (he : s.entryAt n = some e)
    (scheduled : e.status = .scheduled) : (s.madeDue n).Board l (some e.owner) := by
  obtain ⟨mem, number⟩ := State.entryAt_some he
  have others (x : Entry) (hx : x ∈ s.plan) (hs : x.status ≠ .scheduled) :
      x ∈ (s.madeDue n).plan := by
    refine List.mem_filterMap.mpr ⟨x, hx, if_neg fun same => hs ?_⟩
    rw [numbers.eq_of_number hx mem (same.trans number.symm), scheduled]
  have old (y : Entry) (hy : y ∈ (s.madeDue n).plan) (hs : y.status ≠ .due) : y ∈ s.plan := by
    obtain ⟨x, hx, hxy⟩ := List.mem_filterMap.mp hy
    split at hxy <;> cases hxy
    · exact absurd rfl hs
    · exact hx
  refine h.arrived (s := s) rfl (fun d hd => ?_) ?_ fun waits => ?_
  · refine .onNumber numbers he hd rfl rfl fun x y hy => ?_
    cases hy; rfl
  · rw [State.holds_iff, State.holds_iff]
    refine or_congr_right (exists_congr fun g => ?_)
    rw [State.mem_standings, State.mem_standings]
    constructor
    · rintro ⟨y, hy, own, status⟩
      exact ⟨y, old y hy (by simp [status]), own, status⟩
    · rintro ⟨x, hx, own, status⟩
      exact ⟨x, others x hx (by simp [status]), own, status⟩
  · refine State.waits_iff.mpr ((State.waits_iff.mp waits).imp_right fun due => ?_)
    obtain ⟨x, hx, own, status⟩ := State.mem_standings.mp due
    exact State.mem_standings.mpr ⟨x, others x hx (by simp [status]), own, status⟩

end Updates
end Sys2Proof.Machine
end

section
namespace Sys2Proof.Machine

/-! ## The board under the rows' acts -/

/-- The tables in their forms and the board as the arbiter's state calls for it. -/
def State.BoardOk (s : State) : Prop := s.TablesOk ∧ s.boardFollows

section Acts

variable {s t : State} {c : Client} {n : Nat} {e : Entry}

theorem State.TablesOk.numbers (h : s.TablesOk) : numbersDiffer s.plan := h.2.1.1.imp Nat.ne_of_lt

theorem State.BoardOk.of (k : s.TablesOk) (h : s.Board none none) : s.BoardOk := ⟨k, s.boardFollows_iff.mpr h⟩

theorem State.BoardOk.board (h : s.BoardOk) : s.Board none none := s.boardFollows_iff.mp h.2

/-- Notices do not reach the tables or the board. -/
theorem State.BoardOk.giveNotice (h : s.BoardOk) (c : Client) (x : Notice) : (s.giveNotice c x).BoardOk := by
  rw [State.giveNotice_eq]
  exact h

theorem State.BoardOk.giveNoticeIf (h : s.BoardOk) (p : Bool) (c : Client) (x : Notice) :
    (s.giveNoticeIf p c x).BoardOk := by
  rw [State.giveNoticeIf_eq]
  exact h

theorem State.BoardOk.recompute (h : s.BoardOk) (note : Option ChannelNote) : (s.recompute note).BoardOk := by
  rw [State.recompute_frame]
  exact h

theorem State.BoardOk.stateCheck (h : s.BoardOk) : s.stateCheck.BoardOk := .of h.1.stateCheck h.board.stateCheck

theorem State.BoardOk.stateCheckIf (h : s.BoardOk) (p : Bool) : (s.stateCheckIf p).BoardOk :=
  .of (h.1.stateCheckIf p) (h.board.stateCheckIf p)

theorem State.BoardOk.claimsLeft (k : s.TablesOk) (h : s.Board (some c) none) (b : State) :
    (b.claimsLeft s c).BoardOk := .of (k.claimsLeft b c) (h.claimsLeft b)

/-! ### Entries -/

theorem State.Board.wake (h : s.Board none none) (numbers : numbersDiffer s.plan) (n : Nat) :
    (s.wake n).Board none none := by
  rcases s.wake_cases n with e | ⟨e, he, scheduled, _, ha⟩
  · rw [e]; exact h
  · rw [ha]
    exact (h.madeDue numbers he scheduled).claimArrived

/-- An occurrence of the holder whose start is reached joins while the arbiter's answer to what left is still due. -/
theorem State.Board.wake_holder (h : s.Board (some c) none) (numbers : numbersDiffer s.plan) (hm : s.arb.mode = .held c)
    (own : ∀ e, s.entryAt n = some e → e.owner = c) : (s.wake n).Board (some c) none := by
  rcases s.wake_cases n with e | ⟨e, he, scheduled, _, ha⟩
  · rw [e]; exact h
  · have due := h.madeDue numbers he scheduled
    rw [ha]
    rw [own e he] at due ⊢
    change ((s.madeDue n).claimArrived c).Board (some c) none
    rw [State.claimArrived_holder (s := s.madeDue n) hm]
    exact due.join hm

theorem State.BoardOk.wake (h : s.BoardOk) (n : Nat) : (s.wake n).BoardOk :=
  .of (h.1.wake n) (h.board.wake h.1.numbers n)

theorem State.BoardOk.wakeAll (h : s.BoardOk) (ns : List Nat) : (s.wakeAll ns).BoardOk := by
  induction ns generalizing s with
  | nil => exact h
  | cons n ns ih => exact ih (h.wake n)

theorem Entry.onBoard_iff (e : Entry) : e.status.onBoard ↔ (e.isDue || e.isHolding) = true := by
  rw [Bool.or_eq_true, Entry.isDue_iff, Entry.isHolding_iff]
  cases e.status <;> simp [EntryStatus.onBoard]

theorem State.BoardOk.removeEntry (h : s.BoardOk) (he : s.entryAt n = some e) (ended : Bool) :
    (s.removeEntry e ended).BoardOk := by
  have tables := h.1.removeEntry e ended
  have number : s.entryAt e.number = some e := (State.entryAt_some he).2 ▸ he
  obtain ⟨live, plan, arb⟩ :=
    State.SameBoard.giveNoticeIf (.refl (s.onEntry e.number fun _ => none)) ended e.owner .ended
  have mode := congrArg Arbiter.mode arb
  refine .of tables ?_
  unfold State.removeEntry State.afterRemoval
  split
  · exact State.Board.claimsLeft (h.board.entryLeft h.1.numbers number mode live plan nofun nofun) s
  · rename_i off
    exact h.board.entryOff h.1.numbers number mode live plan nofun (mt e.onBoard_iff.mp off) nofun

/-- An entry that advances is SCHEDULED, where it does not retire (R73). -/
theorem Entry.advance_off {now : AirTime} {x y : Entry} (h : x.advance now = some y) : ¬ y.status.onBoard := by
  unfold Entry.advance at h
  split at h <;> cases h
  exact id

/-- An advance writes the entry and a notice alone. -/
theorem State.advanceEntry_writes (s : State) (e : Entry) : (s.advanceEntry e).live = s.live ∧
    (s.advanceEntry e).plan = onNumber e.number (fun x => x.advance s.clock) s.plan ∧
    (s.advanceEntry e).arb = s.arb :=
  State.SameBoard.giveNoticeIf (.refl (s.onEntry e.number fun x => x.advance s.clock)) _ _ _

theorem State.Board.advanceEntry (h : s.Board none none) (numbers : numbersDiffer s.plan) (he : s.entryAt n = some e) :
    (s.advanceEntry e).Board (some e.owner) none := by
  have number : s.entryAt e.number = some e := (State.entryAt_some he).2 ▸ he
  obtain ⟨live, plan, arb⟩ := s.advanceEntry_writes e
  exact h.entryLeft numbers number (congrArg Arbiter.mode arb) live plan (fun _ _ hy => (Entry.advance_owner hy).2)
    fun _ hy => Entry.advance_off hy

theorem State.BoardOk.missOccurrence (h : s.BoardOk) (he : s.entryAt n = some e) : (s.missOccurrence e).BoardOk := by
  have missed : (((s.onFlow e.flow Flow.missedOne).countMiss).giveNotice e.owner .missed).BoardOk :=
    State.BoardOk.giveNotice (s := (s.onFlow e.flow Flow.missedOne).countMiss) ⟨h.1.onFlow e.flow Flow.counts_missedOne, h.2⟩ _ _
  have advanced := missed.board.advanceEntry (n := n) missed.1.numbers ((State.entryAt_congr (by simp) n).trans he)
  exact ((State.BoardOk.claimsLeft (missed.1.advanceEntry e) advanced s).stateCheckIf _).wake _

/-- The entry found under a number after an act on that number comes of the one found before. -/
theorem State.entryAt_onNumber {f : Entry → Option Entry} {y : Entry} (numbers : numbersDiffer s.plan)
    (he : s.entryAt n = some e) (plan : t.plan = onNumber n f s.plan) (hy : t.entryAt n = some y) : f e = some y := by
  obtain ⟨mem, rfl⟩ := State.entryAt_some he
  obtain ⟨hy, number⟩ := State.entryAt_some hy
  rw [plan] at hy
  obtain ⟨x, hx, hxy⟩ := List.mem_filterMap.mp hy
  split at hxy
  · rename_i same
    rwa [numbers.eq_of_number hx mem same] at hxy
  · rename_i other
    cases hxy
    exact absurd number other

theorem State.BoardOk.serveOccurrence (h : s.BoardOk) (he : s.entryAt n = some e) (hh : e.isHolding = true) :
    (s.serveOccurrence e).BoardOk := by
  have served : (s.onFlow e.flow Flow.servedOne).BoardOk := ⟨h.1.onFlow e.flow Flow.counts_servedOne, h.2⟩
  obtain ⟨mem, number⟩ := State.entryAt_some he
  have advanced := served.board.advanceEntry (n := n) served.1.numbers he
  have tables := served.1.advanceEntry e
  obtain ⟨g, holding⟩ := e.isHolding_iff.mp hh
  have holder : s.arb.mode = .held e.owner :=
    h.board.holder _ (State.holds_iff.mpr (.inr ⟨g, State.mem_standings.mpr ⟨e, mem, rfl, holding⟩⟩))
  obtain ⟨_, plan, arb⟩ := (s.onFlow e.flow Flow.servedOne).advanceEntry_writes e
  have woken := advanced.wake_holder (n := e.number) tables.numbers ((congrArg Arbiter.mode arb).trans holder)
    fun y hy => (Entry.advance_owner (State.entryAt_onNumber h.1.numbers (number ▸ he) plan hy)).2
  exact State.BoardOk.claimsLeft (tables.wake _) woken s

theorem State.BoardOk.retimeEntry (h : s.BoardOk) (e : Entry) (o : BitVec 13) : (s.retimeEntry e o).BoardOk := by
  have moved {f : Entry → Entry} (same : ∀ x, (f x).owner = x.owner ∧ (f x).status = x.status)
      (tables : (s.onEntry e.number fun x => some (f x)).TablesOk) :
      (s.onEntry e.number fun x => some (f x)).BoardOk := by
    refine .of tables (h.board.same (by simp) fun c => .filterMap rfl rfl (fun x _ _ => .inl ?_) fun x _ y hy => ?_)
    · split
      · exact ⟨_, rfl, (same x).2⟩
      · exact ⟨_, rfl, rfl⟩
    · split at hy <;> cases hy
      · exact (same x).1
      · rfl
  unfold State.retimeEntry
  split
  · exact (moved (f := fun x => { x with start := clampReached s.clock (offsetBy x.start o) }) (fun _ => ⟨rfl, rfl⟩)
      (h.1.onEntry _ fun x y hy => by cases hy; exact ⟨rfl, .inl rfl⟩)).wake _
  · exact h
  · exact moved (f := fun x => { x with pendingOffset := some o }) (fun _ => ⟨rfl, rfl⟩)
      (h.1.onEntry _ fun x y hy => by cases hy; exact ⟨rfl, .inl rfl⟩)

end Acts
end Sys2Proof.Machine
end

section
namespace Sys2Proof.Machine

/-! ## The board under bookings, flows and clients -/

section Acts

variable {s t : State} {c d : Client} {e : Entry} {f : Flow}

/-- A plan with some entries taken away, of this client only ones off the board. -/
theorem State.SameStanding.filter {p : Entry → Bool} (live : t.live.get c = s.live.get c)
    (plan : t.plan = s.plan.filter p) (kept : ∀ e ∈ s.plan, e.owner = c → e.status.onBoard → p e = true) :
    s.SameStanding t c := by
  refine .of_claims (by rw [live]) (by rw [live]) fun x hx => ?_
  rw [State.mem_standings, State.mem_standings, plan]
  constructor
  · rintro ⟨e, he, own, status⟩
    exact ⟨e, List.mem_of_mem_filter he, own, status⟩
  · rintro ⟨e, he, own, rfl⟩
    exact ⟨e, List.mem_filter.mpr ⟨he, kept e he own hx⟩, own, rfl⟩

/-- A new entry of the plan is SCHEDULED, so it is not on the board (R66). -/
theorem State.BoardOk.insertEntry (h : s.BoardOk) (scheduled : e.status = .scheduled)
    (tables : State.TablesOk { s with plan := insertEntry e s.plan }) :
    State.BoardOk { s with plan := insertEntry e s.plan } := by
  refine .of tables (h.board.same rfl fun c => .of_claims .rfl .rfl fun x hx => ?_)
  rw [State.mem_standings, State.mem_standings]
  simp only [mem_insertEntry]
  constructor
  · rintro ⟨y, rfl | hy, own, status⟩
    · rw [← status, scheduled] at hx
      cases hx
    · exact ⟨y, hy, own, status⟩
  · rintro ⟨y, hy, same⟩
    exact ⟨y, .inr hy, same⟩

theorem State.BoardOk.postDraft (h : s.BoardOk) (hf : f ∈ s.flows) (owner : f.owner = c) (d : Draft) :
    (s.postDraft c f d).BoardOk := by
  unfold State.postDraft
  split
  · exact h
  · rename_i shape
    split
    · exact h
    · rename_i room
      split
      · exact h
      · rename_i n hn
        split
        · exact h
        · split
          · rename_i start _ _ admits
            obtain ⟨_, _, load⟩ := (s.loadAdmits_iff _ _).mp admits
            have tables := h.1.insertEntry (x := postedEntry n c f.slot d (s.trimmedSlide d) start)
              (postedEntry_inRange (State.freeEntry_lt hn) (by simpa using shape) (Nat.min_le_right _ _))
              (State.freeEntry_free hn) ⟨f, hf, rfl, owner⟩ (Nat.lt_of_not_le room) load
            exact (h.insertEntry rfl tables).wake _
          · exact h

/-! ### Flows and classes -/

/-- An entry of a flow is the flow's owner's (R58). -/
theorem State.TablesOk.owner_of_flow (h : s.TablesOk) (hf : f ∈ s.flows) (he : e ∈ s.plan) (flow : e.flow = f.slot) :
    e.owner = f.owner := by
  obtain ⟨g, hg, slot, owner⟩ := h.2.2.1 e he
  rw [← owner, slotsRise.eq_of_slot h.1.1 hg hf (slot.trans flow)]

/-- A closed flow leaves the claims of the clients that do not own it. -/
theorem State.closed_other (h : s.TablesOk) (hf : f ∈ s.flows) (hc : c ≠ f.owner) : s.SameStanding (s.closed f) c := by
  refine .filter ?_ rfl fun e he own _ => ?_
  · unfold State.closed
    dsimp only
    split
    · exact PerClient.get_set_other _ _ _ _ hc
    · rfl
  · exact bne_iff_ne.mpr fun flow => hc (own.symm.trans (h.owner_of_flow hf he flow))

theorem State.closed_claim (s : State) (f : Flow) :
    (s.closed f).live.get f.owner = (s.live.get f.owner).unbound ∧ (s.live.get f.owner).binding = some f.slot ∨
      (s.closed f).live.get f.owner = s.live.get f.owner ∧ (s.live.get f.owner).binding ≠ some f.slot := by
  unfold State.closed
  dsimp only
  split
  · rename_i bound
    exact .inl ⟨PerClient.get_set_same _ _ _, bound⟩
  · rename_i other
    exact .inr ⟨rfl, other⟩

theorem LiveClaim.unbound_off (l : LiveClaim) : ¬ l.unbound.waits ∧ ¬ l.unbound.holds :=
  ⟨fun waits => waits.2 rfl, fun holds => holds.2 rfl⟩

theorem State.closed_less (s : State) (f : Flow) : s.LessStanding (s.closed f) f.owner := by
  obtain ⟨waits, holds⟩ := (s.live.get f.owner).unbound_off
  refine .of_claims ?_ ?_ fun x _ => ?_
  · rcases s.closed_claim f with ⟨e, _⟩ | ⟨e, _⟩ <;> rw [e]
    · exact fun h => absurd h waits
    · exact id
  · rcases s.closed_claim f with ⟨e, _⟩ | ⟨e, _⟩ <;> rw [e]
    · exact fun h => absurd h holds
    · exact id
  · rw [State.mem_standings, State.mem_standings]
    rintro ⟨e, he, same⟩
    exact ⟨e, List.mem_of_mem_filter he, same⟩

/-- A flow without a claim on the board leaves its owner's claims too when it is closed. -/
theorem State.closed_same (claims : s.flowClaims f.owner f.slot = false) : s.SameStanding (s.closed f) f.owner := by
  simp only [State.flowClaims, Bool.or_eq_false_iff, List.any_eq_false, beq_iff_eq, Prod.forall] at claims
  obtain ⟨waiting, holding⟩ := claims
  obtain ⟨waits, holds⟩ := (s.live.get f.owner).unbound_off
  refine .of_claims ?_ ?_ fun x hx => ?_
  · rcases s.closed_claim f with ⟨e, bound⟩ | ⟨e, _⟩ <;> rw [e]
    refine iff_of_false waits fun ⟨⟨u, d, state⟩, _⟩ => waiting f.slot u ?_ rfl
    exact (s.mem_waitingClaims _ _ _).mpr (.inl ⟨⟨d, state⟩, bound⟩)
  · rcases s.closed_claim f with ⟨e, bound⟩ | ⟨e, _⟩ <;> rw [e]
    refine iff_of_false holds fun ⟨⟨u, a, d, state⟩, _⟩ => holding f.slot u ?_ rfl
    exact (s.mem_holdingClaims _ _ _).mpr (.inl ⟨⟨a, d, state⟩, bound⟩)
  · rw [State.mem_standings, State.mem_standings]
    constructor
    · rintro ⟨e, he, same⟩
      exact ⟨e, List.mem_of_mem_filter he, same⟩
    · rintro ⟨e, he, own, rfl⟩
      refine ⟨e, List.mem_filter.mpr ⟨he, bne_iff_ne.mpr fun flow => ?_⟩, own, rfl⟩
      cases status : e.status with
      | due => exact waiting _ false ((s.mem_waitingClaims _ _ _).mpr (.inr ⟨rfl, e, he, own, status, flow⟩)) rfl
      | holding g =>
        exact holding _ false ((s.mem_holdingClaims _ _ _).mpr (.inr ⟨rfl, e, he, own, ⟨g, status⟩, flow⟩)) rfl
      | scheduled => rw [status] at hx; exact hx
      | suspended b => rw [status] at hx; exact hx

theorem State.BoardOk.closeFlow (h : s.BoardOk) (hf : f ∈ s.flows) : (s.closeFlow f).BoardOk := by
  refine .of (h.1.closeFlow hf) ?_
  have other : ∀ d, d ≠ f.owner → s.SameStanding (s.closed f) d := fun d hd => State.closed_other h.1 hf hd
  rw [State.closeFlow_eq]
  split
  · exact State.Board.claimsLeft (h.board.left (t := s.closed f) rfl other (s.closed_less f)) s
  · rename_i off
    refine h.board.same rfl fun d => ?_
    by_cases own : d = f.owner
    · rw [own]
      exact State.closed_same (by simpa using off)
    · exact other d own

/-- A live claim that ends by its hold limit is one of the board (R120). -/
theorem State.BoardOk.expireHold (h : s.BoardOk) (hc : (s.live.get c).state ≠ .idle) : (s.expireHold c).BoardOk := by
  obtain ⟨k, bound⟩ := Option.ne_none_iff_exists'.mp ((h.1.2.2.2 c).1 hc)
  have spent := h.board.onLive_left (c := c) (f := fun l => { l with state := .spent }) rfl
  have ended : (s.overstayed c k).Board (some c) none := spent.congr rfl (by simp [State.overstayed])
    (by simp [State.overstayed])
  refine .of (h.1.expireHold hc) ?_
  rw [s.expireHold_eq c k bound]
  exact ended.claimsLeft s

theorem State.BoardOk.refreshHold (h : s.BoardOk) (c : Client) : (s.refreshHold c).BoardOk := by
  unfold State.refreshHold
  split
  · rename_i u start d k holding bound
    have busy : (s.live.get c).state ≠ .idle := by simp [holding]
    have refreshed : (s.onLive c fun l =>
        { l with state := .holding u start (after start (s.holdLimitOf k)) }).BoardOk := by
      refine .of (h.1.onLive_bound c (fun _ => rfl) fun _ => .inl busy) (h.board.onLive ?_ ?_) <;>
        simp [LiveClaim.waits, LiveClaim.holds, holding]
    dsimp only
    split
    · exact refreshed.expireHold (by simp)
    · exact refreshed
  · exact h

theorem State.BoardOk.refreshHoldOfClass (h : s.BoardOk) (k : FlowClass) (c : Client) :
    (s.refreshHoldOfClass k c).BoardOk := by
  unfold State.refreshHoldOfClass
  split
  · exact h
  · split
    · exact h
    · split
      · exact h.refreshHold c
      · exact h

theorem State.BoardOk.refreshHolds (h : s.BoardOk) (k : FlowClass) : (s.refreshHolds k).BoardOk :=
  ((h.refreshHoldOfClass k .nr).refreshHoldOfClass k .sr).refreshHoldOfClass k .ar

theorem State.BoardOk.reclassed (h : s.BoardOk) {g : Flow} (hf : f ∈ s.flows) (key : g.key = f.key)
    (range : f.inRange → g.inRange) : (s.reclassed f g).BoardOk := by
  have record : (s.onFlow f.slot fun _ => g).BoardOk := by
    refine ⟨h.1.setFlows (onSlot_keys _ _ _ fun x hx slot => ?_) fun y hy => ?_, h.2⟩
    · rw [slotsRise.eq_of_slot h.1.1.1 hx hf slot, key]
    · obtain ⟨x, hx, rfl⟩ := List.mem_map.mp hy
      split
      · exact range (h.1.1.2.1 f hf)
      · exact h.1.1.2.1 x hx
  unfold State.reclassed State.classChanged
  split
  · exact record
  · split
    · exact (record.refreshHold _).stateCheck
    · exact record.stateCheck

theorem State.BoardOk.setPin (h : s.BoardOk) (hf : f ∈ s.flows) (p : Option FlowClass) : (s.setPin f p).BoardOk := by
  unfold State.setPin
  split
  · exact h
  · exact (h.giveNotice f.owner .policy).reclassed (by simpa using hf) rfl id

/-! ### Clients -/

theorem State.BoardOk.silence (h : s.BoardOk) (c : Client) : (s.silence c).BoardOk := by
  obtain ⟨waiting, holding⟩ := s.silenced_no_claims c
  refine .of (h.1.silence c) (State.Board.claimsLeft (h.board.left (t := s.silenced c) rfl (fun d hd => ?_)
    ⟨fun waits => absurd waiting waits, fun holds => absurd holding holds⟩) s)
  refine .filterMap (f := fun e => some (if e.owner = c then e.suspend s.clock else e))
    (PerClient.get_set_other _ _ _ _ hd) (List.filterMap_eq_map' ▸ rfl) (fun e _ own => ?_) fun e _ y hy => ?_
  · exact .inl ⟨e, by rw [if_neg (own ▸ hd)], rfl⟩
  · cases hy
    exact (e.silenced_owner c s.clock).2

/-- A revival brings no entry onto the board and takes none off it (R34). -/
theorem Entry.revive_standing (e : Entry) (now : AirTime) :
    (∃ y, e.revive now = some y ∧ y.status = e.status) ∨
      ¬ e.status.onBoard ∧ ∀ y, e.revive now = some y → ¬ y.status.onBoard := by
  cases status : e.status with
  | suspended b =>
    refine .inr ⟨id, fun y hy => ?_⟩
    simp only [Entry.revive, status] at hy
    split at hy
    · split at hy <;> cases hy
      exact id
    · cases hy
      exact id
  | _ => exact .inl ⟨e, by simp [Entry.revive, status], status⟩

theorem State.BoardOk.reviveClient (h : s.BoardOk) (c : Client) : (s.reviveClient c).BoardOk := by
  have reopened : (s.reopened c).BoardOk := by
    refine .of (h.1.filterMapPlan fun e y hy => ?_) (h.board.same rfl fun d =>
      .filterMap (f := fun e => if e.owner = c then e.revive s.clock else some e) rfl rfl (fun e _ _ => ?_)
        fun e _ y hy => (Entry.reopened_owner hy).2)
    · split at hy
      · exact Entry.continues_revive hy
      · cases hy
        exact Entry.continues_of_count rfl rfl
    · split
      · exact e.revive_standing s.clock
      · exact .inl ⟨e, rfl, rfl⟩
  rw [State.reviveClient_eq]
  exact ((reopened.giveNoticeIf _ c _).giveNotice c _).wakeAll _

theorem State.BoardOk.teardownIfAttached (h : s.BoardOk) (c : Client) : (s.teardownIfAttached c).BoardOk := by
  have tables := h.1.teardownIfAttached c
  revert tables
  unfold State.teardownIfAttached
  split
  · exact fun _ => h
  · intro tables
    obtain ⟨waiting, holding⟩ := s.emptied_no_claims c
    have live : (s.emptied c).live = (s.stripped c).live := by rw [s.emptied_frame c]
    have plan : (s.emptied c).plan = (s.stripped c).plan := by rw [s.emptied_frame c]
    have arb : (s.emptied c).arb = s.arb := by rw [s.emptied_frame c]; rfl
    refine .of tables (State.Board.claimsLeft (h.board.left (t := s.emptied c) (congrArg Arbiter.mode arb)
      (fun d hd => ?_) ⟨fun waits => absurd waiting waits, fun holds => absurd holding holds⟩) s)
    refine .filter (p := fun e => e.owner != c) ?_ plan fun e _ own _ => bne_iff_ne.mpr (own ▸ hd)
    rw [live]
    exact PerClient.get_set_other _ _ _ _ hd

/-- The park at a moved default position holds no claim (R105). -/
theorem State.BoardOk.defaultMoved (h : s.BoardOk) (old : Client) : (s.defaultMoved old).BoardOk := by
  refine .of (h.1.defaultMoved old) ?_
  have parked (rest : s.arb.mode = .free ∨ ∃ g, s.arb.mode = .parking g) :
      (s.passZeroGuard s.moveToDefault).Board none none := by
    have waits (c : Client) : ¬ s.waits c := fun waits => by
      rcases (h.board.waiter c waits).resolve_left nofun with ⟨n, g, hm⟩ | ⟨x, hm, _⟩ <;>
        rcases rest with e | ⟨_, e⟩ <;> cases e.symm.trans hm
    have holds (c : Client) : ¬ s.holds c := fun holds => by
      rcases rest with e | ⟨_, e⟩ <;> cases e.symm.trans (h.board.holder c holds)
    have entered := s.setMode_standing (.parking s.newGuard)
    refine State.Board.passZeroGuard (t := s.moveToDefault)
      (State.Board.congr (s := s.setMode (.parking s.newGuard)) ?_ rfl rfl rfl) s
    exact .at_rest (fun c => mt (entered c).holds.mp (holds c)) (fun c => mt (entered c).waits.mp (waits c))
      (.inr ⟨_, s.setMode_mode _⟩)
  unfold State.defaultMoved
  split
  · exact h.board
  · split
    · rename_i hm; exact parked (.inl hm)
    · rename_i g hm; exact parked (.inr ⟨g, hm⟩)
    · exact h.board

end Acts
end Sys2Proof.Machine
end

section
namespace Sys2Proof.Machine

/-! ## Every row keeps the board -/

section Rows

variable {s t : State} {c : Client}

theorem State.BoardOk.whenRunning {f : State → State} (h : s.BoardOk) (he : s.whenRunning f = .next t)
    (hf : (f s).BoardOk) : t.BoardOk := by
  cases he
  split
  · exact hf
  · exact h

/-- A row of a passing frame keeps the board where its act does. -/
theorem State.BoardOk.frame {act : State → State} (h : s.BoardOk)
    (he : (s.whenRunning fun s => s.takeFrame c act) = .next t)
    (ha : ∀ u : State, u.BoardOk → (act u).BoardOk) : t.BoardOk := by
  refine h.whenRunning he ?_
  unfold State.takeFrame
  split
  · refine ha _ ?_
    unfold State.presence
    split <;> exact h
  · exact h

/-- A row of a frame that only an OPENING or ACTIVE client is admitted to. -/
theorem State.BoardOk.admittedFrame {act : State → State} (h : s.BoardOk)
    (he : (s.whenRunning fun s => s.takeFrame c fun s => s.ifAdmitted c act) = .next t)
    (ha : ∀ u : State, u.BoardOk → (act u).BoardOk) : t.BoardOk := by
  refine h.frame he fun u hu => ?_
  unfold State.ifAdmitted
  split
  · exact ha u hu
  · exact hu

/-! ### Rows of the links -/

theorem execAttach_boardOk (v : Value) (h : s.BoardOk) (he : execAttach c v s = .next t) : t.BoardOk := by
  refine h.whenRunning he ?_
  split
  · exact State.BoardOk.teardownIfAttached (s := s.onLink c Link.consume) h c
  · exact h

theorem execCloseFlow_boardOk {v : Value} (h : s.BoardOk) (he : execCloseFlow c v s = .next t) : t.BoardOk := by
  refine h.admittedFrame he fun u hu => ?_
  split
  · exact hu
  · rename_i f hf
    split
    · exact hu
    · exact hu.closeFlow (State.flowNamed_some hf).1

theorem execReclass_boardOk {v : Value} (h : s.BoardOk) (he : execReclass c v s = .next t) : t.BoardOk := by
  refine h.admittedFrame he fun u hu => ?_
  split
  · exact hu
  · rename_i f hf
    split
    · exact hu
    · rename_i k _
      split
      · exact hu
      · exact hu.reclassed (g := { f with requested := k }) (State.flowNamed_some hf).1 rfl id

/-- A binding changes while the live claim is IDLE, off the board (R52). -/
theorem State.BoardOk.bind (h : s.BoardOk) (idle : (s.live.get c).state = .idle) {b : Option Nat}
    (bound : ∀ k, b = some k → ∃ f ∈ s.flows, f.slot = k ∧ f.owner = c) :
    (s.onLive c fun l => { l with binding := b }).BoardOk := by
  refine .of (h.1.onLive c (fun busy => absurd idle busy) bound) (h.board.onLive ?_ ?_) <;>
    simp [LiveClaim.waits, LiveClaim.holds, idle]

theorem execBindLive_boardOk {v : Value} (h : s.BoardOk) (he : execBindLive c v s = .next t) : t.BoardOk := by
  refine h.admittedFrame he fun u hu => ?_
  split
  · split
    · rename_i idle
      exact hu.bind idle nofun
    · exact hu
  · split
    · exact hu
    · rename_i f hf
      obtain ⟨mem, owner, _⟩ := State.flowNamed_some hf
      split
      · rename_i idle
        exact hu.bind idle fun k hk => ⟨f, mem, Option.some.inj hk, owner⟩
      · exact hu

theorem execPost_boardOk {v : Value} (h : s.BoardOk) (he : execPost c v s = .next t) : t.BoardOk := by
  refine h.admittedFrame he fun u hu => ?_
  split
  · exact hu
  · split
    · exact hu
    · rename_i f hf
      obtain ⟨mem, owner, _⟩ := State.flowNamed_some hf
      exact hu.postDraft mem owner _

theorem execRetime_boardOk {v : Value} (h : s.BoardOk) (he : execRetime c v s = .next t) : t.BoardOk := by
  refine h.admittedFrame he fun u hu => ?_
  split
  · exact hu
  · split
    · exact hu
    · exact hu.retimeEntry _ _

theorem execCancel_boardOk {v : Value} (h : s.BoardOk) (he : execCancel c v s = .next t) : t.BoardOk := by
  refine h.admittedFrame he fun u hu => ?_
  split
  · exact hu
  · split
    · exact hu
    · rename_i e hn
      exact hu.removeEntry (State.entryNamed_some hn).1 _

/-! ### Rows of the request lines and of the air clock -/

/-- A REQ rise that makes a claim brings a waiting claim of the client (R114). -/
theorem State.BoardOk.rise (h : s.BoardOk) (makes : s.riseMakesClaim c = true) (d : AirTime) :
    State.BoardOk ((s.onLive c fun l => { l with reqLevel := true, state := .waiting l.prioLevel d }).claimArrived c) := by
  simp only [State.riseMakesClaim, Bool.and_eq_true, Option.isSome_iff_ne_none, beq_iff_eq] at makes
  obtain ⟨⟨_, bound⟩, idle⟩ := makes
  have tables := h.1.onLive_bound c (f := fun l => { l with reqLevel := true, state := .waiting l.prioLevel d })
    (fun _ => rfl) fun _ => .inr bound
  refine .of (tables.claimArrived c) (State.Board.claimArrived (h.board.arrived (c := c) rfl
    (fun d hd => s.onLive_other _ hd) ?_ fun _ => State.waits_iff.mpr (.inl ?_)))
  · rw [State.holds_iff, State.holds_iff]
    refine or_congr_left ?_
    simp [LiveClaim.holds, idle]
  · simp [LiveClaim.waits, bound]

theorem execReqRise_boardOk (h : s.BoardOk) (he : execReqRise c s = .next t) : t.BoardOk := by
  refine h.whenRunning he ?_
  split
  · exact h
  · split
    · rename_i makes
      exact h.rise makes _
    · exact .of (h.1.onLive_bound c (f := fun l => { l with reqLevel := true }) (fun _ => rfl) .inl)
        (h.board.onLive .rfl .rfl)

theorem execReqFall_boardOk (h : s.BoardOk) (he : execReqFall c s = .next t) : t.BoardOk := by
  have tables := h.1.onLive_bound c (f := fun l => { l.toIdle with reqLevel := false }) (fun _ => rfl)
    fun busy => absurd rfl busy
  refine h.whenRunning he ?_
  split
  · exact h
  · dsimp only
    split
    · exact .claimsLeft tables (h.board.onLive_left rfl) s
    · rename_i off
      refine .of tables (h.board.onLive (iff_of_false (by simp [LiveClaim.waits, LiveClaim.toIdle]) fun waits => off ?_)
        (iff_of_false (by simp [LiveClaim.holds, LiveClaim.toIdle]) fun holds => off ?_))
      · obtain ⟨⟨u, d, state⟩, _⟩ := waits
        simp [LiveClaim.onBoard, state]
      · obtain ⟨⟨u, a, d, state⟩, _⟩ := holds
        simp [LiveClaim.onBoard, state]

theorem execPrioEdge_boardOk {x : Bool} (h : s.BoardOk) (he : execPrioEdge c x s = .next t) : t.BoardOk :=
  h.whenRunning he (.of (h.1.onLive_bound c (f := fun l => { l with prioLevel := x }) (fun _ => rfl) .inl)
    (h.board.onLive .rfl .rfl))

theorem LiveClaim.nextAging_standing (l : LiveClaim) (n : Nat) :
    ((l.nextAging n).waits ↔ l.waits) ∧ ((l.nextAging n).holds ↔ l.holds) := by
  unfold LiveClaim.waits LiveClaim.holds LiveClaim.nextAging
  cases h : l.state <;> simp [h]

theorem execAgingExpiry_boardOk (h : s.BoardOk) (he : execAgingExpiry c s = .next t) : t.BoardOk := by
  have aged : (s.onBoundFlow c Flow.aged).BoardOk := by
    refine .of (h.1.onBoundFlow c Flow.counts_aged) ?_
    unfold State.onBoundFlow
    split
    · exact h.board
    · exact h.board.congr rfl rfl rfl
  refine h.whenRunning he ?_
  split
  · obtain ⟨waits, holds⟩ := LiveClaim.nextAging_standing ((s.onBoundFlow c Flow.aged).live.get c) s.policy.agingInterval
    refine State.BoardOk.stateCheckIf (.of (aged.1.onLive_bound c
      (fun l => (l.nextAging_keeps _).2.2) fun busy => .inl fun idle => busy ?_) (aged.board.onLive waits holds)) _
    simp [LiveClaim.nextAging, idle]
  · exact h

theorem execHoldExpiry_boardOk (h : s.BoardOk) (he : execHoldExpiry c s = .next t) : t.BoardOk := by
  refine h.whenRunning he ?_
  split
  · rename_i due
    refine h.expireHold fun idle => ?_
    simp [State.holdDue, idle] at due
  · exact h

theorem execPresenceExpiry_boardOk (h : s.BoardOk) (he : execPresenceExpiry c s = .next t) : t.BoardOk := by
  refine h.whenRunning he ?_
  split
  · exact h.silence c
  · exact h

theorem execMiss_boardOk {n : Fin 32} (h : s.BoardOk) (he : execMiss n s = .next t) : t.BoardOk := by
  refine h.whenRunning he ?_
  split
  · exact h
  · rename_i e hn
    split
    · exact h.missOccurrence hn
    · exact h

theorem execOccurrenceEnd_boardOk {n : Fin 32} (h : s.BoardOk) (he : execOccurrenceEnd n s = .next t) : t.BoardOk := by
  refine h.whenRunning he ?_
  split
  · exact h
  · rename_i e hn
    split
    · rename_i due
      exact h.serveOccurrence hn (Entry.isHolding_of_endDue due)
    · exact h

/-- An act on the entries of a number that keeps each one's owner, and each one's state or its place off the board. -/
theorem State.BoardOk.onEntry (h : s.BoardOk) (n : Nat) {f : Entry → Entry}
    (tables : (s.onEntry n fun e => some (f e)).TablesOk) (owner : ∀ e, (f e).owner = e.owner)
    (same : ∀ e, (f e).status = e.status ∨ ¬ e.status.onBoard ∧ ¬ (f e).status.onBoard) :
    (s.onEntry n fun e => some (f e)).BoardOk := by
  refine .of tables (h.board.same rfl fun c => .filterMap rfl rfl (fun e _ _ => ?_) fun e _ y hy => ?_)
  · split
    · exact (same e).imp (fun status => ⟨f e, rfl, status⟩) fun off => ⟨off.1, by simpa using off.2⟩
    · exact .inl ⟨e, rfl, rfl⟩
  · split at hy <;> cases hy
    · exact owner e
    · rfl

theorem execSuspendedStep_boardOk {n : Fin 32} (h : s.BoardOk) (he : execSuspendedStep n s = .next t) : t.BoardOk := by
  have tables : t.TablesOk := execSuspendedStep_tablesOk h.1 he
  cases he
  split at tables
  · rename_i high
    rw [if_pos high]
    refine h.onEntry n.val tables (fun e => ?_) fun e => .inl ?_ <;> split <;> rfl
  · rename_i low
    rw [if_neg low]
    exact h

theorem execOneshotExpired_boardOk {n : Fin 32} (h : s.BoardOk) (he : execOneshotExpired n s = .next t) :
    t.BoardOk := by
  have tables : t.TablesOk := execOneshotExpired_tablesOk h.1 he
  cases he
  split at tables
  · rename_i high
    rw [if_pos high]
    refine h.onEntry n.val tables (fun e => ?_) fun e => ?_ <;> split
    · rfl
    · rfl
    · rename_i due
      simp only [Entry.expiryDue, Bool.and_eq_true, beq_iff_eq] at due
      exact .inr ⟨by rw [due.1.1]; exact id, id⟩
    · exact .inl rfl
  · rename_i low
    rw [if_neg low]
    exact h

theorem execGuardEndSettling_boardOk (h : s.BoardOk) (he : execGuardEndSettling s = .next t) : t.BoardOk := by
  refine h.whenRunning he ?_
  split
  · rename_i c g hm
    split
    · exact .of (arbiterClosed_tablesOk.grant s _ h.1)
        (.grant (h.board.nobody_holds (by simp [hm])) ((h.board.next c g hm).resolve_left nofun))
    · exact h
  · exact h

theorem execGuardEndParking_boardOk (h : s.BoardOk) (he : execGuardEndParking s = .next t) : t.BoardOk := by
  have passed {g : AirTime} (hm : s.arb.mode = .parking g) : s.endGuard = s.setMode .free := by
    simp [State.endGuard, hm]
  refine h.whenRunning he ?_
  split
  · rename_i g hm
    split
    · rw [← passed hm]
      exact .of (arbiterClosed_tablesOk.endGuard s h.1) h.board.endGuard
    · exact h
  · exact h

theorem execRollover_boardOk (h : s.BoardOk) (he : execRollover s = .next t) : t.BoardOk := by
  refine h.whenRunning he ?_
  split
  · have rolled : s.rolledOver.BoardOk := by
      rw [State.rolledOver_eq]
      exact h
    exact rolled.stateCheckIf _
  · exact h

theorem execPenaltyCrossing_boardOk (h : s.BoardOk) (he : execPenaltyCrossing s = .next t) : t.BoardOk := by
  refine h.whenRunning he ?_
  split
  · rename_i c _
    split
    · exact State.BoardOk.stateCheck (s := { s with acct := { s.acct with
        penalty := s.acct.penalty.set c (s.penaltyNow c) } }) h
    · exact h
  · exact h

/-! ### Rows of the platform port -/

theorem execSetClass_boardOk {k b a f : Byte} {l : BitVec 16} (h : s.BoardOk)
    (he : execSetClass k b a f l s = .next t) : t.BoardOk := by
  refine h.whenRunning he ?_
  split
  · exact h
  · rename_i k _
    exact (State.BoardOk.refreshHolds (s := { s with policy := { s.policy with
      classes := s.policy.classes.setRow k (classRowOf b a f l) } }) h k).stateCheck

theorem execSetClient_boardOk {b share : Byte} {cap : BitVec 16} {p rank : Byte} (h : s.BoardOk)
    (he : execSetClient b share cap p rank s = .next t) : t.BoardOk := by
  refine h.whenRunning he ?_
  split
  · exact h
  · rw [State.setClient_eq]
    refine State.BoardOk.stateCheck ?_
    unfold State.clientWritten
    split
    · exact h.giveNotice _ .policy
    · exact h

theorem execSetWindow_boardOk {n r : Byte} (h : s.BoardOk) (he : execSetWindow n r s = .next t) : t.BoardOk := by
  have restarted : (s.restartWindow (saturate 3 255 n.toNat) (saturate 1 16 r.toNat)).BoardOk := by
    rw [State.restartWindow_eq]
    exact h
  exact h.whenRunning he restarted.stateCheck

theorem execSetArbiter_boardOk {g m a p x : Byte} (h : s.BoardOk) (he : execSetArbiter g m a p x s = .next t) :
    t.BoardOk := by
  have moved : (State.defaultMoved { s with policy := { s.policy with
      guardTime := saturate 0 63 g.toNat, margin := saturate 1 63 m.toNat
      agingInterval := saturate 1 50 a.toNat * Config.agingUnit, defaultPos := positionOf p
      channelGuard := saturate 0 15 x.toNat } } s.policy.defaultPos).BoardOk := by
    refine State.BoardOk.defaultMoved ?_ _
    exact h
  have checked : (s.setArbiter (saturate 0 63 g.toNat) (saturate 1 63 m.toNat)
      (saturate 1 50 a.toNat * Config.agingUnit) (positionOf p) (saturate 0 15 x.toNat)).BoardOk := by
    unfold State.setArbiter
    refine State.BoardOk.stateCheck ?_
    split
    · exact moved
    · exact moved.recompute _
  exact h.whenRunning he checked

theorem execPinFlow_boardOk {k x : Byte} (h : s.BoardOk) (he : execPinFlow k x s = .next t) : t.BoardOk := by
  refine h.whenRunning he ?_
  split
  · exact h
  · rename_i f hf
    exact h.setPin (State.flowAt_some hf).1 _

theorem execUnpinFlow_boardOk {k : Byte} (h : s.BoardOk) (he : execUnpinFlow k s = .next t) : t.BoardOk := by
  refine h.whenRunning he ?_
  split
  · exact h
  · rename_i f hf
    exact h.setPin (State.flowAt_some hf).1 _

theorem execDropEntry_boardOk {n : Byte} (h : s.BoardOk) (he : execDropEntry n s = .next t) : t.BoardOk := by
  refine h.whenRunning he ?_
  split
  · exact h
  · rename_i e hn
    exact h.removeEntry hn _

theorem execEvict_boardOk {b : Byte} (h : s.BoardOk) (he : execEvict b s = .next t) : t.BoardOk := by
  refine h.whenRunning he ?_
  split
  · exact h
  · exact h.teardownIfAttached _

theorem execRevive_boardOk {b : Byte} (h : s.BoardOk) (he : execRevive b s = .next t) : t.BoardOk := by
  refine h.whenRunning he ?_
  split
  · exact h
  · split
    · exact h.reviveClient _
    · exact h

/-- With no entry and every live claim IDLE the board is empty. -/
theorem State.BoardOk.of_empty (tables : t.TablesOk) (plan : t.plan = [])
    (idle : ∀ c, (t.live.get c).state = .idle) (rest : t.arb.mode = .free ∨ ∃ g, t.arb.mode = .parking g) :
    t.BoardOk := by
  have claims (c : Client) : t.waitingClaims c = [] ∧ t.holdingClaims c = [] :=
    State.board_empty idle plan c
  exact .of tables (.at_rest (fun c holds => holds (claims c).2) (fun c waits => waits (claims c).1) rest)

/-- After a restart the arbiter is FREE or PARKING (R108). -/
theorem State.restartArbiter_rest (s : State) :
    s.restartArbiter.mode = .free ∨ ∃ g, s.restartArbiter.mode = .parking g := by
  unfold State.restartArbiter
  split
  · split
    · exact .inl rfl
    · exact .inr ⟨_, rfl⟩
  · split
    · exact .inl rfl
    · exact .inr ⟨_, rfl⟩

theorem State.restartAll_boardOk (s : State) : s.restartAll.BoardOk :=
  .of_empty s.restartAll_tablesOk rfl (fun c => by rw [(s.restartAll_client c).2.1]) s.restartArbiter_rest

theorem State.resetHeld_boardOk (s : State) : s.resetHeld.BoardOk :=
  .of_empty s.resetHeld_tablesOk rfl (fun c => by cases c <;> rfl) (.inl rfl)

theorem State.powerOn_boardOk (pins : ResetPins) (k : Nat) (q : List Instr) : (State.powerOn pins k q).BoardOk :=
  .of_empty (State.powerOn_tablesOk pins k q) rfl (fun c => (State.powerOn_live pins k q c).1) (.inr ⟨_, rfl⟩)

/-- Every row keeps the board as the arbiter's state has it. -/
theorem exec_boardOk (i : Instr) (h : s.BoardOk) (he : exec i s = .next t) : t.BoardOk := by
  cases i with
  | resetEnd p => cases he; exact State.powerOn_boardOk p _ _
  | resetnLow => cases he; exact s.resetHeld_boardOk
  | attach c v => exact execAttach_boardOk v h he
  | detach c v => exact h.frame he fun _ hu => hu.teardownIfAttached c
  | closeFlow c v => exact execCloseFlow_boardOk h he
  | reclass c v => exact execReclass_boardOk h he
  | bindLive c v => exact execBindLive_boardOk h he
  | post c v => exact execPost_boardOk h he
  | retime c v => exact execRetime_boardOk h he
  | cancel c v => exact execCancel_boardOk h he
  | reqRise c => exact execReqRise_boardOk h he
  | reqFall c => exact execReqFall_boardOk h he
  | prioEdge c x => exact execPrioEdge_boardOk h he
  | agingExpiry c => exact execAgingExpiry_boardOk h he
  | holdExpiry c => exact execHoldExpiry_boardOk h he
  | presenceExpiry c => exact execPresenceExpiry_boardOk h he
  | startReached n => exact h.whenRunning (f := fun s => s.wake n.val) he (h.wake n.val)
  | miss n => exact execMiss_boardOk h he
  | occurrenceEnd n => exact execOccurrenceEnd_boardOk h he
  | suspendedStep n => exact execSuspendedStep_boardOk h he
  | oneshotExpired n => exact execOneshotExpired_boardOk h he
  | guardEndSettling => exact execGuardEndSettling_boardOk h he
  | guardEndParking => exact execGuardEndParking_boardOk h he
  | rollover => exact execRollover_boardOk h he
  | penaltyCrossing => exact execPenaltyCrossing_boardOk h he
  | setClass k b a f l => exact execSetClass_boardOk h he
  | setClient b x cap p rank => exact execSetClient_boardOk h he
  | setWindow n r => exact execSetWindow_boardOk h he
  | setArbiter g m a p x => exact execSetArbiter_boardOk h he
  | pinFlow k x => exact execPinFlow_boardOk h he
  | unpinFlow k => exact execUnpinFlow_boardOk h he
  | dropEntry n => exact execDropEntry_boardOk h he
  | evict b => exact execEvict_boardOk h he
  | revive b => exact execRevive_boardOk h he
  | restart => exact h.whenRunning (f := fun s => s.restartAll.finishWrite .ok []) he s.restartAll_boardOk
  | _ =>
    obtain ⟨live, plan, arb⟩ := exec_sameBoard _ rfl he
    exact .of (exec_tablesOk _ h.1 he) (h.board.congr live plan (congrArg Arbiter.mode arb))

end Rows

/-- Settles O56: every row keeps the board, and the tick does not touch it. -/
theorem everyStepKeepsTheBoard : Obligations.EveryStepKeepsTheBoard := by
  intro s t flows plan refs board h
  have sound : s.BoardOk := ⟨⟨flows, plan, refs⟩, board⟩
  rcases step_cases h with ⟨i, q, k, hi⟩ | ⟨_, rfl⟩ | rfl
  · exact (exec_boardOk (s := { s with pending := q, freeIndex := k }) i sound hi).2
  · exact board
  · exact board

end Sys2Proof.Machine
end

section
namespace Sys2Proof.Machine

/-! ## What an answer of the arbiter leaves of the switch -/

/-- What every row but a guard's end, a reset, SET ARBITER and RESTART leaves of the switch: it stands where the
arbiter's state puts it, if it stood so before, and with a guard time above 0 a state of the arbiter without a running
guard is reached only with the switch left where it stood and no guard running (R89, R90, R91). -/
structure State.SwitchKept (s t : State) : Prop where
  resetn : t.resetn = s.resetn
  guardTime : t.policy.guardTime = s.policy.guardTime
  defaultPos : t.policy.defaultPos = s.policy.defaultPos
  follows : s.switchFollows → t.switchFollows
  unguarded : t.policy.guardTime ≠ 0 → t.arb.mode.guardEnd = none →
    s.arb.mode.guardEnd = none ∧ t.arb.position = s.arb.position

section Acts

variable {r s t : State} {c d : Client}

/-- The switch follows by the arbiter's state, the position and the default position alone. -/
theorem State.switchFollows_congr (arb : t.arb = s.arb) (defaultPos : t.policy.defaultPos = s.policy.defaultPos) :
    t.switchFollows ↔ s.switchFollows := by
  unfold State.switchFollows
  rw [arb, defaultPos]

theorem State.SwitchKept.refl (s : State) : s.SwitchKept s := ⟨rfl, rfl, rfl, id, fun _ none => ⟨none, rfl⟩⟩

theorem State.SwitchKept.trans (h : r.SwitchKept s) (k : s.SwitchKept t) : r.SwitchKept t where
  resetn := k.resetn.trans h.resetn
  guardTime := k.guardTime.trans h.guardTime
  defaultPos := k.defaultPos.trans h.defaultPos
  follows := k.follows ∘ h.follows
  unguarded time none := by
    obtain ⟨guard, position⟩ := k.unguarded time none
    obtain ⟨before, stood⟩ := h.unguarded (k.guardTime ▸ time) guard
    exact ⟨before, position.trans stood⟩

/-- An act that leaves the arbiter's state, the switch, RESETN, G and the default position as they are. -/
theorem State.SwitchKept.same (h : r.SwitchKept s) (resetn : t.resetn = s.resetn)
    (guardTime : t.policy.guardTime = s.policy.guardTime) (defaultPos : t.policy.defaultPos = s.policy.defaultPos)
    (arb : t.arb = s.arb) : r.SwitchKept t :=
  h.trans ⟨resetn, guardTime, defaultPos, (State.switchFollows_congr arb defaultPos).mpr,
    fun _ none => ⟨arb ▸ none, congrArg Arbiter.position arb⟩⟩

/-- What an act of the arbiter leaves, which keeps RESETN and the policy. -/
theorem State.SwitchKept.of_answer (keeps : ArbiterKeeps s t) (follows : t.switchFollows)
    (unguarded : t.arb.mode.guardEnd = none → s.arb.mode.guardEnd = none ∧ t.arb.position = s.arb.position) :
    s.SwitchKept t :=
  ⟨keeps.resetn, by rw [keeps.policy], by rw [keeps.policy], fun _ => follows, fun _ => unguarded⟩

theorem State.settleToward_switch (s : State) (d : Client) :
    (s.settleToward d).switchFollows ∧ (s.settleToward d).arb.mode.guardEnd ≠ none := by
  have mode : (s.settleToward d).arb.mode = .settling d s.newGuard := s.setMode_mode _
  unfold State.switchFollows
  rw [mode]
  exact ⟨rfl, nofun⟩

theorem State.moveToDefault_switch (s : State) :
    s.moveToDefault.switchFollows ∧ s.moveToDefault.arb.mode.guardEnd ≠ none := by
  have mode : s.moveToDefault.arb.mode = .parking s.newGuard := s.setMode_mode _
  have policy : s.moveToDefault.policy = s.policy := by simp [State.moveToDefault]
  unfold State.switchFollows
  rw [mode]
  exact ⟨congrArg Policy.defaultPos policy.symm, nofun⟩

theorem State.grant_switchFollows (h : s.arb.position = c) : (s.grant c).switchFollows := by
  have mode : (s.grant c).arb.mode = .held c := s.setMode_mode _
  have position : (s.grant c).arb.position = s.arb.position := s.setMode_position _
  unfold State.switchFollows
  rw [mode]
  exact position.trans h

theorem State.park_switchKept (s : State) : s.SwitchKept s.park := by
  have keeps := s.park_keeps
  rcases s.park_cases with ⟨home, guard, e⟩ | ⟨g, home, _, e⟩ | ⟨_, e⟩ <;> rw [e] at keeps ⊢
  · exact .of_answer keeps (by simpa [State.switchFollows] using home) fun _ => ⟨guard, s.setMode_position _⟩
  · refine .of_answer keeps (by simpa [State.switchFollows] using home) fun none => ?_
    rw [s.setMode_mode] at none
    cases none
  · exact .of_answer keeps s.moveToDefault_switch.1 fun none => absurd none s.moveToDefault_switch.2

theorem State.settleToward_switchKept (s : State) (d : Client) : s.SwitchKept (s.settleToward d) :=
  .of_answer (s.settleToward_keeps d) (s.settleToward_switch d).1 fun none => absurd none (s.settleToward_switch d).2

theorem State.handOff_switchKept (s : State) : s.SwitchKept s.handOff := by
  have keeps := s.handOff_keeps
  rcases s.handOff_cases with ⟨_, e⟩ | ⟨c, w, _, ⟨at_c, guard, e⟩ | ⟨g, at_c, _, e⟩ | ⟨_, e⟩⟩ <;> rw [e] at keeps ⊢
  · exact s.park_switchKept
  · exact .of_answer keeps (State.grant_switchFollows at_c) fun _ => ⟨guard, s.setMode_position _⟩
  · refine .of_answer keeps (by simpa [State.switchFollows] using at_c) fun none => ?_
    rw [s.setMode_mode] at none
    cases none
  · exact s.settleToward_switchKept c

theorem State.displacementCheck_switchKept (s : State) : s.SwitchKept s.displacementCheck := by
  rcases s.displacementCheck_cases with e | ⟨_, _, d, _, _, _, _, e⟩ <;> rw [e]
  · exact .refl s
  · exact s.settleToward_switchKept d

theorem State.preempt_switchKept (s : State) (c d : Client) : s.SwitchKept (s.preempt c d) := by
  have cut : s.SwitchKept (s.cutHoldings c).countPreemption := by
    have keeps := s.cutHoldings_keeps c
    exact (State.SwitchKept.refl s).same keeps.resetn (by rw [← keeps.policy]; rfl) (by rw [← keeps.policy]; rfl)
      (by rw [s.cutHoldings_eq c]; rfl)
  have settled : s.SwitchKept (s.preempted c d) := cut.trans (State.settleToward_switchKept _ d)
  rw [State.preempt_eq]
  split
  · exact settled
  · exact settled.trans (State.displacementCheck_switchKept _)

theorem State.preemptionCheck_switchKept (s : State) : s.SwitchKept s.preemptionCheck := by
  rcases s.preemptionCheck_cases with e | ⟨c, d, _, _, _, _, _, e⟩ <;> rw [e]
  · exact .refl s
  · exact s.preempt_switchKept c d

/-- A guard's end leaves the switch where it stands, as the state it brings calls for (R96, R97). -/
theorem State.endGuard_switchFollows (h : s.switchFollows) : s.endGuard.switchFollows := by
  unfold State.endGuard
  cases hm : s.arb.mode with
  | free => exact h
  | held c => exact h
  | settling c g =>
    unfold State.switchFollows at h
    rw [hm] at h
    exact State.grant_switchFollows h
  | parking g =>
    unfold State.switchFollows at h ⊢
    rw [hm] at h
    simpa using h

theorem State.SwitchKept.passZeroGuard (h : s.SwitchKept t) : s.SwitchKept (s.passZeroGuard t) := by
  rcases s.passZeroGuard_cases t with e | ⟨zero, _, _, e⟩ <;> rw [e]
  · exact h
  · have keeps := t.endGuard_keeps
    exact h.trans ⟨keeps.resetn, by rw [keeps.policy], by rw [keeps.policy], State.endGuard_switchFollows,
      fun time => absurd zero (keeps.policy ▸ time)⟩

theorem State.SwitchKept.stateCheck (h : r.SwitchKept s) : r.SwitchKept s.stateCheck := by
  refine h.trans ?_
  rcases s.stateCheck_cases with e | e | e <;> rw [e]
  · exact s.preemptionCheck_switchKept.passZeroGuard
  · exact s.displacementCheck_switchKept.passZeroGuard
  · exact .refl s

theorem State.SwitchKept.stateCheckIf (h : r.SwitchKept s) (p : Bool) : r.SwitchKept (s.stateCheckIf p) := by
  cases p
  · exact h
  · exact h.stateCheck

theorem State.SwitchKept.claimArrived (h : r.SwitchKept s) (c : Client) : r.SwitchKept (s.claimArrived c) := by
  refine h.trans ?_
  rcases s.claimArrived_cases c with e | e | e | e | e <;> rw [e]
  · exact s.handOff_switchKept.passZeroGuard
  · exact .refl s
  · exact s.displacementCheck_switchKept.passZeroGuard
  · exact ((State.SwitchKept.refl s).same (t := s.turnHolding c) rfl rfl rfl rfl).passZeroGuard
  · exact s.preemptionCheck_switchKept.passZeroGuard

theorem State.SwitchKept.claimsLeft (h : r.SwitchKept s) (b : State) (c : Client) :
    r.SwitchKept (b.claimsLeft s c) := by
  refine h.trans ?_
  rcases b.claimsLeft_cases s c with e | e | e | e <;> rw [e]
  · exact s.handOff_switchKept.passZeroGuard
  · exact s.preemptionCheck_switchKept.passZeroGuard
  · exact s.displacementCheck_switchKept.passZeroGuard
  · exact .refl s

end Acts
end Sys2Proof.Machine
end

section
namespace Sys2Proof.Machine

/-! ## What the rows' acts leave of the switch -/

section Acts

variable {r s t : State} {c : Client} {e : Entry} {f : Flow}

theorem State.SwitchKept.giveNotice (h : r.SwitchKept s) (c : Client) (x : Notice) : r.SwitchKept (s.giveNotice c x) := by
  rw [State.giveNotice_eq]
  exact h.same rfl rfl rfl rfl

theorem State.SwitchKept.giveNoticeIf (h : r.SwitchKept s) (p : Bool) (c : Client) (x : Notice) :
    r.SwitchKept (s.giveNoticeIf p c x) := by
  rw [State.giveNoticeIf_eq]
  exact h.same rfl rfl rfl rfl

/-! ### Entries -/

theorem State.SwitchKept.wake (h : r.SwitchKept s) (n : Nat) : r.SwitchKept (s.wake n) := by
  rcases s.wake_cases n with e | ⟨e, _, _, _, ha⟩
  · rw [e]; exact h
  · rw [ha]
    exact State.SwitchKept.claimArrived (s := s.onEntry n _) (h.same rfl rfl rfl rfl) _

theorem State.SwitchKept.wakeAll (h : r.SwitchKept s) (ns : List Nat) : r.SwitchKept (s.wakeAll ns) := by
  induction ns generalizing s with
  | nil => exact h
  | cons n ns ih => exact ih (h.wake n)

theorem State.SwitchKept.onEntry (h : r.SwitchKept s) (n : Nat) (f : Entry → Option Entry) :
    r.SwitchKept (s.onEntry n f) := h.same rfl rfl rfl rfl

theorem State.SwitchKept.removeEntry (h : r.SwitchKept s) (e : Entry) (ended : Bool) :
    r.SwitchKept (s.removeEntry e ended) := by
  have gone := (h.onEntry e.number fun _ => none).giveNoticeIf ended e.owner .ended
  unfold State.removeEntry State.afterRemoval
  split
  · exact gone.claimsLeft _ _
  · exact gone

theorem State.SwitchKept.advanceEntry (h : r.SwitchKept s) (e : Entry) : r.SwitchKept (s.advanceEntry e) :=
  (h.onEntry e.number _).giveNoticeIf _ _ _

theorem State.SwitchKept.missOccurrence (h : r.SwitchKept s) (e : Entry) : r.SwitchKept (s.missOccurrence e) := by
  have missed : r.SwitchKept (((s.onFlow e.flow Flow.missedOne).countMiss).giveNotice e.owner .missed) :=
    State.SwitchKept.giveNotice (s := (s.onFlow e.flow Flow.missedOne).countMiss) (h.same rfl rfl rfl rfl) _ _
  exact (((missed.advanceEntry e).claimsLeft _ _).stateCheckIf _).wake _

theorem State.SwitchKept.serveOccurrence (h : r.SwitchKept s) (e : Entry) : r.SwitchKept (s.serveOccurrence e) := by
  have served : r.SwitchKept (s.onFlow e.flow Flow.servedOne) := h.same rfl rfl rfl rfl
  exact ((served.advanceEntry e).wake _).claimsLeft _ _

theorem State.SwitchKept.retimeEntry (h : r.SwitchKept s) (e : Entry) (o : BitVec 13) :
    r.SwitchKept (s.retimeEntry e o) := by
  unfold State.retimeEntry
  split
  · exact (h.onEntry e.number _).wake _
  · exact h
  · exact h.onEntry e.number _

theorem State.SwitchKept.postDraft (h : r.SwitchKept s) (c : Client) (f : Flow) (d : Draft) :
    r.SwitchKept (s.postDraft c f d) := by
  have refused (x : Result) : r.SwitchKept (s.refuse c x) := h.same rfl rfl rfl rfl
  unfold State.postDraft
  split
  · exact refused _
  · split
    · exact refused _
    · split
      · exact refused _
      · rename_i n _
        split
        · exact refused _
        · split
          · rename_i start _ _ _
            have booked := State.SwitchKept.wake (s := { s with
              plan := insertEntry (postedEntry n c f.slot d (s.trimmedSlide d) start) s.plan })
              (h.same rfl rfl rfl rfl) n
            exact booked.same rfl rfl rfl rfl
          · exact h.same rfl rfl rfl rfl

/-! ### Flows and classes -/

theorem State.SwitchKept.closeFlow (h : r.SwitchKept s) (f : Flow) : r.SwitchKept (s.closeFlow f) := by
  have closed : r.SwitchKept (s.closed f) := h.same rfl rfl rfl rfl
  rw [State.closeFlow_eq]
  split
  · exact closed.claimsLeft _ _
  · exact closed

theorem State.SwitchKept.onBoundFlow (h : r.SwitchKept s) (c : Client) (f : Flow → Flow) :
    r.SwitchKept (s.onBoundFlow c f) := by
  unfold State.onBoundFlow
  split
  · exact h
  · exact h.same rfl rfl rfl rfl

theorem State.SwitchKept.expireHold (h : r.SwitchKept s) (c : Client) : r.SwitchKept (s.expireHold c) := by
  have spent : r.SwitchKept (s.onLive c fun l => { l with state := .spent }) := h.same rfl rfl rfl rfl
  have counted := (spent.onBoundFlow c Flow.overstayed).same
    (t := ((s.onLive c fun l => { l with state := .spent }).onBoundFlow c Flow.overstayed).countOverstay) rfl rfl rfl rfl
  have reported := counted.giveNotice c .overstay
  exact (reported.same (t := State.setPortNotice _ .overstay) rfl rfl rfl rfl).claimsLeft s c

theorem State.SwitchKept.refreshHold (h : r.SwitchKept s) (c : Client) : r.SwitchKept (s.refreshHold c) := by
  unfold State.refreshHold
  split
  · rename_i u start d k _ _
    have refreshed : r.SwitchKept (s.onLive c fun l =>
        { l with state := .holding u start (after start (s.holdLimitOf k)) }) := h.same rfl rfl rfl rfl
    dsimp only
    split
    · exact refreshed.expireHold c
    · exact refreshed
  · exact h

theorem State.SwitchKept.refreshHoldOfClass (h : r.SwitchKept s) (k : FlowClass) (c : Client) :
    r.SwitchKept (s.refreshHoldOfClass k c) := by
  unfold State.refreshHoldOfClass
  split
  · exact h
  · split
    · exact h
    · split
      · exact h.refreshHold c
      · exact h

theorem State.SwitchKept.refreshHolds (h : r.SwitchKept s) (k : FlowClass) : r.SwitchKept (s.refreshHolds k) :=
  ((h.refreshHoldOfClass k .nr).refreshHoldOfClass k .sr).refreshHoldOfClass k .ar

theorem State.SwitchKept.reclassed (h : r.SwitchKept s) (f g : Flow) : r.SwitchKept (s.reclassed f g) := by
  have record : r.SwitchKept (s.onFlow f.slot fun _ => g) := h.same rfl rfl rfl rfl
  unfold State.reclassed State.classChanged
  split
  · exact record
  · split
    · exact (record.refreshHold _).stateCheck
    · exact record.stateCheck

theorem State.SwitchKept.setPin (h : r.SwitchKept s) (f : Flow) (p : Option FlowClass) :
    r.SwitchKept (s.setPin f p) := by
  unfold State.setPin
  split
  · exact h
  · exact (h.giveNotice f.owner .policy).reclassed _ _

/-! ### Clients -/

theorem State.SwitchKept.silence (h : r.SwitchKept s) (c : Client) : r.SwitchKept (s.silence c) :=
  State.SwitchKept.claimsLeft (s := s.silenced c) (h.same rfl rfl rfl rfl) s c

theorem State.SwitchKept.reviveClient (h : r.SwitchKept s) (c : Client) : r.SwitchKept (s.reviveClient c) := by
  have reopened : r.SwitchKept (s.reopened c) := h.same rfl rfl rfl rfl
  rw [State.reviveClient_eq]
  exact ((reopened.giveNoticeIf _ c _).giveNotice c _).wakeAll _

theorem State.SwitchKept.teardownIfAttached (h : r.SwitchKept s) (c : Client) :
    r.SwitchKept (s.teardownIfAttached c) := by
  have emptied : r.SwitchKept (s.emptied c) := by
    rw [s.emptied_frame c]
    exact h.same rfl rfl rfl rfl
  unfold State.teardownIfAttached
  split
  · exact h
  · exact emptied.claimsLeft s c

end Acts
end Sys2Proof.Machine
end

section
namespace Sys2Proof.Machine

/-! ## What the rows leave of the switch -/

/-- The rows with an effect of their own on the switch, its guard or RESETN. -/
def Instr.setsSwitch : Instr → Bool
  | .resetEnd _ => true
  | .resetnLow => true
  | .guardEndSettling => true
  | .guardEndParking => true
  | .setArbiter _ _ _ _ _ => true
  | .restart => true
  | _ => false

section Rows

variable {s t : State} {c : Client}

theorem State.SwitchKept.whenRunning {f : State → State} (he : s.whenRunning f = .next t)
    (hf : s.SwitchKept (f s)) : s.SwitchKept t := by
  cases he
  split
  · exact hf
  · exact .refl s

theorem State.SwitchKept.frame {act : State → State} (he : (s.whenRunning fun s => s.takeFrame c act) = .next t)
    (ha : ∀ u, s.SwitchKept u → s.SwitchKept (act u)) : s.SwitchKept t := by
  refine .whenRunning he ?_
  unfold State.takeFrame
  split
  · refine ha _ ?_
    unfold State.presence
    split <;> exact (State.SwitchKept.refl s).same rfl rfl rfl rfl
  · exact .refl s

theorem State.SwitchKept.answer (h : s.SwitchKept t) (c : Client) (r : Result) (d : Value) :
    s.SwitchKept (t.answer c r d) := h.same rfl rfl rfl rfl

theorem State.SwitchKept.finishWrite (h : s.SwitchKept t) (r : PortResult) (bs : List Byte) :
    s.SwitchKept (t.finishWrite r bs) := h.same rfl rfl rfl rfl

theorem State.SwitchKept.refused (s : State) (r : PortResult) : s.SwitchKept (s.refuseWrite r) :=
  (State.SwitchKept.refl s).same rfl rfl rfl rfl

theorem State.SwitchKept.admittedFrame {act : State → State}
    (he : (s.whenRunning fun s => s.takeFrame c fun s => s.ifAdmitted c act) = .next t)
    (ha : ∀ u, s.SwitchKept u → s.SwitchKept (act u)) : s.SwitchKept t := by
  refine .frame he fun u hu => ?_
  unfold State.ifAdmitted
  split
  · exact ha u hu
  · exact hu.answer c _ 0

/-! ### Rows of the links -/

theorem execAttach_switchKept (v : Value) (he : execAttach c v s = .next t) : s.SwitchKept t := by
  refine .whenRunning he ?_
  split
  · have consumed : s.SwitchKept (s.onLink c Link.consume) := (State.SwitchKept.refl s).same rfl rfl rfl rfl
    exact (consumed.teardownIfAttached c).same rfl rfl rfl rfl
  · exact .refl s

theorem execCloseFlow_switchKept {v : Value} (he : execCloseFlow c v s = .next t) : s.SwitchKept t := by
  refine .admittedFrame he fun u hu => ?_
  split
  · exact hu.answer c _ 0
  · split
    · exact hu.answer c _ 0
    · exact (hu.closeFlow _).answer c _ _

theorem execReclass_switchKept {v : Value} (he : execReclass c v s = .next t) : s.SwitchKept t := by
  refine .admittedFrame he fun u hu => ?_
  split
  · exact hu.answer c _ 0
  · split
    · exact hu.answer c _ 0
    · split
      · exact hu.answer c _ 0
      · exact (hu.reclassed _ _).answer c _ _

theorem execBindLive_switchKept {v : Value} (he : execBindLive c v s = .next t) : s.SwitchKept t := by
  refine .admittedFrame he fun u hu => ?_
  split
  · split <;> exact hu.same rfl rfl rfl rfl
  · split
    · exact hu.answer c _ 0
    · split <;> exact hu.same rfl rfl rfl rfl

theorem execPost_switchKept {v : Value} (he : execPost c v s = .next t) : s.SwitchKept t := by
  refine .admittedFrame he fun u hu => ?_
  split
  · exact hu.answer c _ 0
  · split
    · exact hu.answer c _ 0
    · exact hu.postDraft c _ _

theorem execRetime_switchKept {v : Value} (he : execRetime c v s = .next t) : s.SwitchKept t := by
  refine .admittedFrame he fun u hu => ?_
  split
  · exact hu.answer c _ 0
  · split
    · exact hu.answer c _ 0
    · exact (hu.retimeEntry _ _).answer c _ _

theorem execCancel_switchKept {v : Value} (he : execCancel c v s = .next t) : s.SwitchKept t := by
  refine .admittedFrame he fun u hu => ?_
  split
  · exact hu.answer c _ 0
  · split
    · exact hu.answer c _ 0
    · exact (hu.removeEntry _ _).answer c _ _

/-! ### Rows of the request lines and of the air clock -/

theorem State.SwitchKept.onLive (s : State) (c : Client) (f : LiveClaim → LiveClaim) : s.SwitchKept (s.onLive c f) :=
  (State.SwitchKept.refl s).same rfl rfl rfl rfl

theorem execReqRise_switchKept (he : execReqRise c s = .next t) : s.SwitchKept t := by
  refine .whenRunning he ?_
  split
  · exact .refl s
  · split
    · exact (State.SwitchKept.onLive s c _).claimArrived c
    · exact .onLive s c _

theorem execReqFall_switchKept (he : execReqFall c s = .next t) : s.SwitchKept t := by
  refine .whenRunning he ?_
  split
  · exact .refl s
  · dsimp only
    split
    · exact (State.SwitchKept.onLive s c _).claimsLeft s c
    · exact .onLive s c _

theorem execPrioEdge_switchKept {x : Bool} (he : execPrioEdge c x s = .next t) : s.SwitchKept t :=
  .whenRunning he (.onLive s c _)

theorem execAgingExpiry_switchKept (he : execAgingExpiry c s = .next t) : s.SwitchKept t := by
  refine .whenRunning he ?_
  split
  · have aged := (State.SwitchKept.refl s).onBoundFlow c Flow.aged
    exact (aged.trans (.onLive _ c _)).stateCheckIf _
  · exact .refl s

theorem execHoldExpiry_switchKept (he : execHoldExpiry c s = .next t) : s.SwitchKept t := by
  refine .whenRunning he ?_
  split
  · exact (State.SwitchKept.refl s).expireHold c
  · exact .refl s

theorem execPresenceExpiry_switchKept (he : execPresenceExpiry c s = .next t) : s.SwitchKept t := by
  refine .whenRunning he ?_
  split
  · exact (State.SwitchKept.refl s).silence c
  · exact .refl s

theorem execMiss_switchKept {n : Fin 32} (he : execMiss n s = .next t) : s.SwitchKept t := by
  refine .whenRunning he ?_
  split
  · exact .refl s
  · split
    · exact (State.SwitchKept.refl s).missOccurrence _
    · exact .refl s

theorem execOccurrenceEnd_switchKept {n : Fin 32} (he : execOccurrenceEnd n s = .next t) : s.SwitchKept t := by
  refine .whenRunning he ?_
  split
  · exact .refl s
  · split
    · exact (State.SwitchKept.refl s).serveOccurrence _
    · exact .refl s

theorem execSuspendedStep_switchKept {n : Fin 32} (he : execSuspendedStep n s = .next t) : s.SwitchKept t :=
  .whenRunning he ((State.SwitchKept.refl s).onEntry n.val _)

theorem execOneshotExpired_switchKept {n : Fin 32} (he : execOneshotExpired n s = .next t) : s.SwitchKept t :=
  .whenRunning he ((State.SwitchKept.refl s).onEntry n.val _)

theorem execRollover_switchKept (he : execRollover s = .next t) : s.SwitchKept t := by
  refine .whenRunning he ?_
  split
  · have rolled : s.SwitchKept s.rolledOver := by
      rw [State.rolledOver_eq]
      exact (State.SwitchKept.refl s).same rfl rfl rfl rfl
    exact rolled.stateCheckIf _
  · exact .refl s

theorem execPenaltyCrossing_switchKept (he : execPenaltyCrossing s = .next t) : s.SwitchKept t := by
  refine .whenRunning he ?_
  split
  · split
    · exact State.SwitchKept.stateCheck ((State.SwitchKept.refl s).same rfl rfl rfl rfl)
    · exact .refl s
  · exact .refl s

/-! ### Rows of the platform port -/

theorem execSetClass_switchKept {k b a f : Byte} {l : BitVec 16} (he : execSetClass k b a f l s = .next t) :
    s.SwitchKept t := by
  refine .whenRunning he ?_
  split
  · exact .refused s _
  · rename_i k _
    have written : s.SwitchKept { s with policy := { s.policy with
      classes := s.policy.classes.setRow k (classRowOf b a f l) } } := (State.SwitchKept.refl s).same rfl rfl rfl rfl
    exact (written.refreshHolds k).stateCheck.finishWrite _ _

theorem execSetClient_switchKept {b share : Byte} {cap : BitVec 16} {p rank : Byte}
    (he : execSetClient b share cap p rank s = .next t) : s.SwitchKept t := by
  refine .whenRunning he ?_
  split
  · exact .refused s _
  · rw [State.setClient_eq]
    refine State.SwitchKept.finishWrite (State.SwitchKept.stateCheck ?_) _ _
    unfold State.clientWritten
    split
    · exact (State.SwitchKept.refl s).same (by simp) rfl rfl (by simp)
    · exact (State.SwitchKept.refl s).same rfl rfl rfl rfl

theorem execSetWindow_switchKept {n r : Byte} (he : execSetWindow n r s = .next t) : s.SwitchKept t := by
  have restarted : s.SwitchKept (s.restartWindow (saturate 3 255 n.toNat) (saturate 1 16 r.toNat)) := by
    rw [State.restartWindow_eq]
    exact (State.SwitchKept.refl s).same rfl rfl rfl rfl
  exact .whenRunning he (restarted.stateCheck.finishWrite _ _)

theorem execPinFlow_switchKept {k x : Byte} (he : execPinFlow k x s = .next t) : s.SwitchKept t := by
  refine .whenRunning he ?_
  split
  · exact .refused s _
  · exact ((State.SwitchKept.refl s).setPin _ _).finishWrite _ _

theorem execUnpinFlow_switchKept {k : Byte} (he : execUnpinFlow k s = .next t) : s.SwitchKept t := by
  refine .whenRunning he ?_
  split
  · exact .refused s _
  · exact ((State.SwitchKept.refl s).setPin _ _).finishWrite _ _

theorem execDropEntry_switchKept {n : Byte} (he : execDropEntry n s = .next t) : s.SwitchKept t := by
  refine .whenRunning he ?_
  split
  · exact .refused s _
  · exact ((State.SwitchKept.refl s).removeEntry _ _).finishWrite _ _

theorem execEvict_switchKept {b : Byte} (he : execEvict b s = .next t) : s.SwitchKept t := by
  refine .whenRunning he ?_
  split
  · exact .refused s _
  · exact ((State.SwitchKept.refl s).teardownIfAttached _).finishWrite _ _

theorem execRevive_switchKept {b : Byte} (he : execRevive b s = .next t) : s.SwitchKept t := by
  refine .whenRunning he ?_
  split
  · exact .refused s _
  · split
    · exact ((State.SwitchKept.refl s).reviveClient _).finishWrite _ _
    · exact .refused s _

/-- Every row without an effect of its own on the switch keeps it. -/
theorem exec_switchKept (i : Instr) (hi : Instr.setsSwitch i = false) (he : exec i s = .next t) : s.SwitchKept t := by
  cases i with
  | resetEnd p => cases hi
  | resetnLow => cases hi
  | guardEndSettling => cases hi
  | guardEndParking => cases hi
  | setArbiter g m a p x => cases hi
  | restart => cases hi
  | attach c v => exact execAttach_switchKept v he
  | detach c v => exact .frame he fun _ hu => (hu.teardownIfAttached c).answer c _ _
  | closeFlow c v => exact execCloseFlow_switchKept he
  | reclass c v => exact execReclass_switchKept he
  | bindLive c v => exact execBindLive_switchKept he
  | post c v => exact execPost_switchKept he
  | retime c v => exact execRetime_switchKept he
  | cancel c v => exact execCancel_switchKept he
  | reqRise c => exact execReqRise_switchKept he
  | reqFall c => exact execReqFall_switchKept he
  | prioEdge c x => exact execPrioEdge_switchKept he
  | agingExpiry c => exact execAgingExpiry_switchKept he
  | holdExpiry c => exact execHoldExpiry_switchKept he
  | presenceExpiry c => exact execPresenceExpiry_switchKept he
  | startReached n => exact .whenRunning (f := fun s => s.wake n.val) he ((State.SwitchKept.refl s).wake n.val)
  | miss n => exact execMiss_switchKept he
  | occurrenceEnd n => exact execOccurrenceEnd_switchKept he
  | suspendedStep n => exact execSuspendedStep_switchKept he
  | oneshotExpired n => exact execOneshotExpired_switchKept he
  | rollover => exact execRollover_switchKept he
  | penaltyCrossing => exact execPenaltyCrossing_switchKept he
  | setClass k b a f l => exact execSetClass_switchKept he
  | setClient b x cap p rank => exact execSetClient_switchKept he
  | setWindow n r => exact execSetWindow_switchKept he
  | pinFlow k x => exact execPinFlow_switchKept he
  | unpinFlow k => exact execUnpinFlow_switchKept he
  | dropEntry n => exact execDropEntry_switchKept he
  | evict b => exact execEvict_switchKept he
  | revive b => exact execRevive_switchKept he
  | _ =>
    have kept := exec_keeps _ rfl he
    obtain ⟨_, _, arb⟩ := exec_sameBoard _ rfl he
    have policy : t.policy = s.policy := kept .policy nofun
    exact (State.SwitchKept.refl s).same (kept .resetn id) (by rw [policy]) (by rw [policy]) arb

end Rows
end Sys2Proof.Machine
end

section
namespace Sys2Proof.Machine

/-! ## The policy after the rows that write it -/

section Policy

variable {s t : State}

/-- The policy is kept by whatever writes no policy. -/
theorem KeepsAllBut.policy (h : KeepsAllBut (fun p => p ≠ .policy) s t) : t.policy = s.policy := h .policy fun h => h rfl

/-- A SET CLASS has written the row of a class, before its effects (R159). -/
def State.classWritten (s : State) (k : FlowClass) (r : ClassRow) : State :=
  { s with policy := { s.policy with classes := s.policy.classes.setRow k r } }

/-- A SET ARBITER has written its five settings, before their effects (R161). -/
def State.settingsWritten (s : State) (g m a : Nat) (p : Client) (x : Nat) : State :=
  { s with policy := { s.policy with
    guardTime := g, margin := m, agingInterval := a, defaultPos := p, channelGuard := x } }

/-- A changed channel guard recomputes the masks (R134, R161). -/
def State.masksFor (s : State) (old : Nat) : State :=
  if old = s.policy.channelGuard then s else s.recompute s.channel.note

theorem State.setArbiter_eq (s : State) (g m a : Nat) (p : Client) (x : Nat) :
    s.setArbiter g m a p x =
      (((s.settingsWritten g m a p x).defaultMoved s.policy.defaultPos).masksFor s.policy.channelGuard).stateCheck := by
  have policy : ((s.settingsWritten g m a p x).defaultMoved s.policy.defaultPos).policy =
      (s.settingsWritten g m a p x).policy := (keeps_defaultMoved _).policy
  unfold State.masksFor
  rw [policy]
  rfl

theorem exec_setClass {k : FlowClass} {b base step flags : Byte} {l : BitVec 16} (high : s.resetn = true)
    (hb : classOfCode b.toNat = some k) : exec (.setClass b base step flags l) s = .next
      ((((s.classWritten k (classRowOf base step flags l)).refreshHolds k).stateCheck).finishWrite
        (clampedIf (outside 0 15 base.toNat || outside 0 3 step.toNat || outside 100 65000 l.toNat)) []) := by
  simp only [exec, execSetClass, s.whenRunning_high _ high, hb]
  rfl

theorem exec_setArbiter {g m a p x : Byte} (high : s.resetn = true) : exec (.setArbiter g m a p x) s = .next
    ((s.setArbiter (saturate 0 63 g.toNat) (saturate 1 63 m.toNat) (saturate 1 50 a.toNat * Config.agingUnit)
        (positionOf p) (saturate 0 15 x.toNat)).finishWrite
      (clampedIf (outside 0 63 g.toNat || outside 1 63 m.toNat || outside 1 50 a.toNat || outside 0 2 p.toNat ||
        outside 0 15 x.toNat)) []) := by
  simp only [exec, execSetArbiter, s.whenRunning_high _ high]

theorem State.setClass_policy (s : State) (k : FlowClass) (r : ClassRow) (x : PortResult) :
    ((((s.classWritten k r).refreshHolds k).stateCheck).finishWrite x []).policy = (s.classWritten k r).policy :=
  KeepsAllBut.policy (((keeps_refreshHolds k).trans keeps_stateCheck).trans (keeps_finishWrite _ _ nofun))

theorem State.masksFor_policy (s : State) (old : Nat) : (s.masksFor old).policy = s.policy := by
  unfold State.masksFor
  split
  · rfl
  · rw [State.recompute_frame]

theorem State.setArbiter_policy (s : State) (g m a : Nat) (p : Client) (x : Nat) (r : PortResult) :
    ((s.setArbiter g m a p x).finishWrite r []).policy = (s.settingsWritten g m a p x).policy := by
  have checked : ((s.setArbiter g m a p x).finishWrite r []).policy =
      (((s.settingsWritten g m a p x).defaultMoved s.policy.defaultPos).masksFor s.policy.channelGuard).policy := by
    rw [State.setArbiter_eq]
    exact KeepsAllBut.policy (keeps_stateCheck.trans (keeps_finishWrite _ _ nofun))
  rw [checked, State.masksFor_policy]
  exact (keeps_defaultMoved _).policy

/-! ### The ranges of the settings -/

theorem ClassTable.row_setRow_same (p : ClassTable) (k : FlowClass) (r : ClassRow) : (p.setRow k r).row k = r := by
  cases k <;> rfl

theorem ClassTable.row_setRow_other (p : ClassTable) {j k : FlowClass} (r : ClassRow) (h : j ≠ k) :
    (p.setRow k r).row j = p.row j := by
  cases k <;> cases j <;> simp_all [ClassTable.setRow, ClassTable.row]

theorem classRowOf_inRange (b a f : Byte) (l : BitVec 16) : (classRowOf b a f l).inRange :=
  ⟨(saturate_mem 0 15 _ (by decide)).2, (saturate_mem 0 3 _ (by decide)).2, saturate_mem 100 65000 _ (by decide)⟩

theorem Policy.inRange.setRow {p : Policy} (h : p.inRange) (k : FlowClass) {r : ClassRow} (hr : r.inRange) :
    Policy.inRange { p with classes := p.classes.setRow k r } := by
  obtain ⟨rows, others⟩ := h
  refine ⟨fun j => ?_, others⟩
  by_cases same : j = k
  · rw [same]
    dsimp only
    rwa [ClassTable.row_setRow_same]
  · dsimp only
    rw [ClassTable.row_setRow_other _ _ same]
    exact rows j

/-- The rank written for a client is exchanged with that of the client that held it, so the tie ranks are a permutation
still (R160). -/
theorem swappedRank_injective {p : PerClient ClientPolicy} (h : ∀ c d, (p.get c).rank = (p.get d).rank → c = d)
    (c : Client) (r : Nat) : Function.Injective (swappedRank p c r) := by
  intro d e same
  unfold swappedRank at same
  by_cases hd : d = c <;> by_cases he : e = c
  · rw [hd, he]
  · rw [if_pos hd, if_neg he] at same
    split at same
    · rename_i held
      exact absurd (h e c (held.trans same)) he
    · rename_i held
      exact absurd same.symm held
  · rw [if_neg hd, if_pos he] at same
    split at same
    · rename_i held
      exact absurd (h d c (held.trans same.symm)) hd
    · rename_i held
      exact absurd same held
  · rw [if_neg hd, if_neg he] at same
    split at same <;> split at same
    · rename_i holds held
      exact h d e (holds.trans held.symm)
    · exact absurd (h e c same.symm) he
    · exact absurd (h d c same) hd
    · exact h d e same

theorem swappedRank_le {p : PerClient ClientPolicy} {n : Nat} (h : ∀ c, (p.get c).rank ≤ n) (c d : Client) {r : Nat}
    (hr : r ≤ n) : swappedRank p c r d ≤ n := by
  unfold swappedRank
  split
  · exact hr
  · split
    · exact h c
    · exact h d

theorem writtenClients_rank (p : PerClient ClientPolicy) (c d : Client) (share cap presence rank : Nat) :
    ((writtenClients p c share cap presence rank).get d).rank = swappedRank p c rank d := by
  by_cases hd : d = c
  · subst hd
    rw [writtenClients_self]
    simp [swappedRank]
  · rw [writtenClients_other _ _ _ _ _ _ hd]
    simp [swappedRank, hd]

theorem Policy.inRange.setClients {p : Policy} (h : p.inRange) (c : Client) {share cap presence rank : Nat}
    (hs : share ≤ 64) (hc : cap ≤ 1024) (hp : presence ≤ 255) (hr : rank ≤ 2) :
    Policy.inRange { p with clients := writtenClients p.clients c share cap presence rank } := by
  obtain ⟨rows, clients, ranks, others⟩ := h
  refine ⟨rows, fun d => ?_, fun d e same => ?_, others⟩ <;> dsimp only at *
  · by_cases hd : d = c
    · subst hd
      rw [writtenClients_self]
      exact ⟨hs, hc, hp, hr⟩
    · obtain ⟨shareLe, capLe, presenceLe, _⟩ := clients d
      have rankLe := swappedRank_le (fun e => (clients e).2.2.2) c d hr
      rw [← writtenClients_rank p.clients c d share cap presence rank] at rankLe
      rw [writtenClients_other _ _ _ _ _ _ hd] at rankLe ⊢
      exact ⟨shareLe, capLe, presenceLe, rankLe⟩
  · rw [writtenClients_rank, writtenClients_rank] at same
    exact swappedRank_injective ranks c rank same

theorem Policy.inRange.setWindow {p : Policy} (h : p.inRange) {n r : Nat} (hn : 3 ≤ n ∧ n ≤ 255) (hr : 1 ≤ r ∧ r ≤ 16) :
    Policy.inRange { p with windowN := n, reviewR := r } := by
  obtain ⟨rows, clients, ranks, guard, margin, marginMax, aging, agingMax, channel, _⟩ := h
  exact ⟨rows, clients, ranks, guard, margin, marginMax, aging, agingMax, channel, hn.1, hn.2, hr.1, hr.2⟩

theorem Policy.inRange.setSettings {p : Policy} (h : p.inRange) {g m a x : Nat} (d : Client) (hg : g ≤ 63)
    (hm : 1 ≤ m ∧ m ≤ 63) (ha : 100 ≤ a ∧ a ≤ 5000) (hx : x ≤ 15) :
    Policy.inRange { p with guardTime := g, margin := m, agingInterval := a, defaultPos := d, channelGuard := x } := by
  obtain ⟨rows, clients, ranks, _, _, _, _, _, _, window⟩ := h
  exact ⟨rows, clients, ranks, hg, hm.1, hm.2, ha.1, ha.2, hx, window⟩

/-- What the rows other than SET ARBITER and the resets make of the policy: nothing, or one row, one client's values, or
the window's settings written, saturated (R159, R160, R161). -/
inductive Policy.Rewritten (p : Policy) : Policy → Prop
  | kept : Policy.Rewritten p p
  | classRow (k : FlowClass) {r : ClassRow} (range : r.inRange) :
    Policy.Rewritten p { p with classes := p.classes.setRow k r }
  | client (c : Client) {share cap presence rank : Nat} (hs : share ≤ 64) (hc : cap ≤ 1024) (hp : presence ≤ 255)
    (hr : rank ≤ 2) : Policy.Rewritten p { p with clients := writtenClients p.clients c share cap presence rank }
  | window {n r : Nat} (hn : 3 ≤ n ∧ n ≤ 255) (hr : 1 ≤ r ∧ r ≤ 16) :
    Policy.Rewritten p { p with windowN := n, reviewR := r }

theorem Policy.Rewritten.inRange {p q : Policy} (h : p.Rewritten q) (range : p.inRange) : q.inRange := by
  cases h with
  | kept => exact range
  | classRow k row => exact range.setRow k row
  | client c hs hc hp hr => exact range.setClients c hs hc hp hr
  | window hn hr => exact range.setWindow hn hr

theorem Policy.Rewritten.channelGuard {p q : Policy} (h : p.Rewritten q) : q.channelGuard = p.channelGuard := by
  cases h <;> rfl

/-- The row SET ARBITER (R161). -/
def Instr.isSetArbiter : Instr → Bool
  | .setArbiter _ _ _ _ _ => true
  | _ => false

theorem exec_rewritten (i : Instr) (reset : Instr.isReset i = false) (other : Instr.isSetArbiter i = false)
    (he : exec i s = .next t) : s.policy.Rewritten t.policy := by
  by_cases low : s.resetn = false
  · rw [exec_held low reset] at he
    cases he
    exact .kept
  have high : s.resetn = true := by simpa using low
  by_cases written : Instr.setsPolicy i = true
  · cases i with
    | setClass b base step flags l =>
      cases hb : classOfCode b.toNat with
      | none =>
        simp only [exec, execSetClass, s.whenRunning_high _ high, hb] at he
        cases he
        exact .kept
      | some k =>
        rw [exec_setClass high hb] at he
        cases he
        rw [State.setClass_policy]
        exact .classRow k (classRowOf_inRange _ _ _ _)
    | setClient b share cap p rank =>
      cases hb : clientOfIndex b.toNat with
      | none =>
        simp only [exec, execSetClient, s.whenRunning_high _ high, hb] at he
        cases he
        exact .kept
      | some c =>
        rw [exec_setClient high hb] at he
        cases he
        rw [State.finishWrite_policy, (State.stateCheck_keeps _).policy]
        exact .client c (Nat.min_le_left _ _) (Nat.min_le_left _ _) (Nat.le_of_lt_succ p.isLt) (Nat.min_le_left _ _)
    | setWindow n r =>
      rw [exec_setWindow n r high] at he
      cases he
      rw [State.finishWrite_policy, (State.stateCheck_keeps _).policy, State.restartWindow_eq]
      exact .window (saturate_mem 3 255 _ (by decide)) (saturate_mem 1 16 _ (by decide))
    | setArbiter g m a p x => cases other
    | _ => cases written
  · have policy : t.policy = s.policy := exec_keeps i reset he .policy written
    rw [policy]
    exact .kept

/-- Every row keeps the settings within their ranges. -/
theorem exec_inRange (i : Instr) (h : s.policy.inRange) (he : exec i s = .next t) : t.policy.inRange := by
  by_cases reset : Instr.isReset i = true
  · obtain ⟨p, rfl⟩ | rfl := (Instr.isReset_iff i).mp reset <;> cases he <;> exact Policy.powerOn_inRange
  have reset : Instr.isReset i = false := by simpa using reset
  cases i with
  | setArbiter g m a p x =>
    by_cases high : s.resetn = true
    · rw [exec_setArbiter high] at he
      cases he
      rw [State.setArbiter_policy]
      obtain ⟨lo, hi⟩ := saturate_mem 1 50 a.toNat (by decide)
      refine h.setSettings _ (saturate_mem 0 63 _ (by decide)).2 (saturate_mem 1 63 _ (by decide)) ?_
        (saturate_mem 0 15 _ (by decide)).2
      simp only [Config.agingUnit]
      omega
    · rw [exec_held (by simpa using high) reset] at he
      cases he
      exact h
  | _ => exact (exec_rewritten _ reset rfl he).inRange h

end Policy
end Sys2Proof.Machine
end

section
namespace Sys2Proof.Machine

/-! ## The masks -/

section Masks

variable {s t u : State} {c : Client}

theorem computeChannel_note (note : Option ChannelNote) (g : Nat) : (computeChannel note g).note = note := by
  cases note <;> rfl

/-- The channel map unit keeps its masks, or has them computed from a note of the band or the one it held, and the
channel guard in force (R128, R134). -/
def State.MasksComputed (s t : State) : Prop :=
  t.channel = s.channel ∨
    ∃ note, t.channel = computeChannel note t.policy.channelGuard ∧
      ∀ n, note = some n → 2412 ≤ n.centre ∧ n.centre ≤ 2484 ∨ s.channel.note = some n

theorem State.MasksComputed.clear (h : t.channel = .clear) : s.MasksComputed t := .inr ⟨none, h, nofun⟩

theorem State.MasksComputed.masksFollow (h : s.MasksComputed t) (hs : s.masksFollow)
    (guard : t.policy.channelGuard = s.policy.channelGuard) : t.masksFollow := by
  obtain ⟨masks, band⟩ := hs
  unfold State.masksFollow
  rcases h with same | ⟨note, computed, source⟩
  · rw [guard, same]
    exact ⟨masks, band⟩
  · rw [computed, computeChannel_note]
    exact ⟨rfl, fun n hn => (source n hn).elim id (band n)⟩

/-- A channel note takes its centre from the band (R129). -/
theorem noteOf_centre {offset : Nat} {w : Width} {n : ChannelNote} (h : noteOf offset w = some (some n)) :
    2412 ≤ n.centre ∧ n.centre ≤ 2484 := by
  unfold noteOf at h
  split at h
  · cases h
  · split at h <;> cases h
    dsimp only
    omega

theorem State.takeFrame_masks {act : State → State} (h : ∀ u : State, u.MasksComputed (act u)) :
    s.MasksComputed (s.takeFrame c act) := by
  have taken (u : State) : ((u.onLink c Link.consume).presence c).channel = u.channel := by
    unfold State.presence
    split <;> rfl
  unfold State.takeFrame
  split
  · have := h ((s.onLink c Link.consume).presence c)
    unfold State.MasksComputed at this ⊢
    rwa [taken] at this
  · exact .inl rfl

theorem execChannelNote_masks {v : Value} (he : execChannelNote c v s = .next t) : s.MasksComputed t := by
  cases he
  split
  · refine State.takeFrame_masks fun u => ?_
    unfold State.ifAdmitted
    split
    · split
      · exact .inl rfl
      · split
        · exact .inl rfl
        · rename_i note hn
          refine .inr ⟨note, ?_, fun n same => .inl (noteOf_centre (same ▸ hn))⟩
          change (u.recompute note).channel = computeChannel note (u.recompute note).policy.channelGuard
          rw [State.recompute_frame]
    · exact .inl rfl
  · exact .inl rfl

theorem State.teardownIfAttached_masks (s : State) (c : Client) : s.MasksComputed (s.teardownIfAttached c) := by
  obtain ⟨nr, other⟩ := State.emptied_channel (s := s) (c := c)
  unfold State.teardownIfAttached
  split
  · exact .inl rfl
  · have answered : (s.teardown c).channel = (s.emptied c).channel := (State.claimsLeft_keeps s (s.emptied c) c).channel
    by_cases hc : c = .nr
    · exact .clear (answered.trans (nr hc))
    · exact .inl (answered.trans (other hc))

theorem execAttach_masks (v : Value) (he : execAttach c v s = .next t) : s.MasksComputed t := by
  cases he
  split
  · dsimp only
    split
    · exact State.teardownIfAttached_masks (s.onLink c Link.consume) c
    · exact .inl rfl
  · exact .inl rfl

theorem execDetach_masks (v : Value) (he : execDetach c v s = .next t) : s.MasksComputed t := by
  cases he
  split
  · exact State.takeFrame_masks fun u => u.teardownIfAttached_masks c
  · exact .inl rfl

theorem execEvict_masks {b : Byte} (he : execEvict b s = .next t) : s.MasksComputed t := by
  cases he
  split
  · split
    · exact .inl rfl
    · exact s.teardownIfAttached_masks _
  · exact .inl rfl

theorem State.masksFor_channel (s : State) (old : Nat) :
    (s.masksFor old).channel =
      if old = s.policy.channelGuard then s.channel else computeChannel s.channel.note s.policy.channelGuard := by
  unfold State.masksFor
  split
  · rfl
  · rw [State.recompute_frame]

/-- A SET ARBITER keeps the masks under an unchanged channel guard and recomputes them under a changed one (R134). -/
theorem State.setArbiter_channel (s : State) (g m a : Nat) (p : Client) (x : Nat) :
    (s.setArbiter g m a p x).channel =
      if s.policy.channelGuard = x then s.channel else computeChannel s.channel.note x := by
  have moved : KeepsAllBut (fun _ => False) (s.settingsWritten g m a p x)
    ((s.settingsWritten g m a p x).defaultMoved s.policy.defaultPos) := keeps_defaultMoved _
  rw [State.setArbiter_eq, (State.stateCheck_keeps _).channel, State.masksFor_channel,
    show _ = _ from moved .policy id, show _ = _ from moved .masks id]
  rfl

theorem exec_masksComputed (i : Instr) (reset : Instr.isReset i = false) (other : Instr.isSetArbiter i = false)
    (he : exec i s = .next t) : s.MasksComputed t := by
  by_cases written : Part.written i .masks
  · rcases written with ⟨v, rfl⟩ | ⟨g, m, a, p, x, rfl⟩ | tears
    · exact execChannelNote_masks he
    · cases other
    · cases i with
      | attach c v => exact execAttach_masks v he
      | detach c v => exact execDetach_masks v he
      | evict b => exact execEvict_masks he
      | restart =>
        cases he
        split
        · exact .clear rfl
        · exact .inl rfl
      | _ => cases tears
  · exact .inl (exec_keeps i reset he .masks written)

/-- Every row keeps the masks those of the note and the channel guard held. -/
theorem exec_masksFollow (i : Instr) (h : s.masksFollow) (he : exec i s = .next t) : t.masksFollow := by
  by_cases reset : Instr.isReset i = true
  · obtain ⟨p, rfl⟩ | rfl := (Instr.isReset_iff i).mp reset <;> cases he <;> exact ⟨rfl, nofun⟩
  have reset : Instr.isReset i = false := by simpa using reset
  cases i with
  | setArbiter g m a p x =>
    by_cases high : s.resetn = true
    · rw [exec_setArbiter high] at he
      cases he
      obtain ⟨masks, band⟩ := h
      unfold State.masksFollow
      rw [State.setArbiter_policy, State.finishWrite_channel, State.setArbiter_channel]
      split
      · rename_i same
        exact ⟨masks.trans (by rw [same]; rfl), band⟩
      · rw [computeChannel_note]
        exact ⟨rfl, band⟩
    · rw [exec_held (by simpa using high) reset] at he
      cases he
      exact h
  | _ =>
    exact (exec_masksComputed _ reset rfl he).masksFollow h (exec_rewritten _ reset rfl he).channelGuard

end Masks
end Sys2Proof.Machine
end

section
namespace Sys2Proof.Machine

/-! ## The switch under the rows with an effect of their own on it -/

section Switch

variable {s t : State} {c : Client}

/-- What a row that writes the switch's own settings leaves of it; only the part about the guard speaks of the states
before it (R89, R90, R91). -/
structure State.SwitchSet (s t : State) : Prop where
  follows : s.switchFollows → t.switchFollows
  unguarded : t.policy.guardTime ≠ 0 → t.arb.mode.guardEnd = none →
    s.arb.mode.guardEnd = none ∧ t.arb.position = s.arb.position

theorem State.SwitchKept.set (h : s.SwitchKept t) : s.SwitchSet t := ⟨h.follows, h.unguarded⟩

theorem State.SwitchSet.trans {u : State} (h : s.SwitchSet t) (k : t.SwitchKept u) : s.SwitchSet u where
  follows := k.follows ∘ h.follows
  unguarded time none := by
    obtain ⟨guard, position⟩ := k.unguarded time none
    obtain ⟨before, stood⟩ := h.unguarded (k.guardTime ▸ time) guard
    exact ⟨before, position.trans stood⟩

/-- A changed default position takes the switch to it where the arbiter rests, and leaves it elsewhere (R105). -/
theorem State.settingsMoved_switchSet (s : State) (g m a : Nat) (p : Client) (x : Nat) :
    s.SwitchSet ((s.settingsWritten g m a p x).defaultMoved s.policy.defaultPos) := by
  obtain ⟨home, guarded⟩ := (s.settingsWritten g m a p x).moveToDefault_switch
  have policy := (s.settingsWritten g m a p x).moveToDefault_keeps.policy
  have moved : s.SwitchSet ((s.settingsWritten g m a p x).passZeroGuard (s.settingsWritten g m a p x).moveToDefault) := by
    rcases (s.settingsWritten g m a p x).passZeroGuard_cases (s.settingsWritten g m a p x).moveToDefault with
      e | ⟨zero, _, _, e⟩ <;> rw [e]
    · exact ⟨fun _ => home, fun _ none => absurd none guarded⟩
    · refine ⟨fun _ => State.endGuard_switchFollows home, fun time => absurd ?_ time⟩
      rw [(State.endGuard_keeps _).policy]
      exact zero
  have stays (follows : s.switchFollows → (s.settingsWritten g m a p x).switchFollows) :
      s.SwitchSet (s.settingsWritten g m a p x) := ⟨follows, fun _ none => ⟨none, rfl⟩⟩
  unfold State.defaultMoved
  split
  · rename_i kept
    refine stays fun h => ?_
    rcases kept with same | there
    · exact (State.switchFollows_congr (s := s) (t := s.settingsWritten g m a p x) rfl same).mpr h
    · unfold State.switchFollows at h ⊢
      cases hm : s.arb.mode <;> simp only [State.settingsWritten, hm] at h there ⊢ <;> assumption
  · split
    · exact moved
    · exact moved
    · rename_i free parking
      refine stays fun h => ?_
      unfold State.switchFollows at h ⊢
      cases hm : s.arb.mode with
      | free => exact absurd hm free
      | parking g => exact absurd hm (parking g)
      | settling n g => simpa [State.settingsWritten, hm] using h
      | held n => simpa [State.settingsWritten, hm] using h

theorem State.masksFor_switchKept (s : State) (old : Nat) : s.SwitchKept (s.masksFor old) := by
  unfold State.masksFor
  split
  · exact .refl s
  · rw [State.recompute_frame]
    exact (State.SwitchKept.refl s).same rfl rfl rfl rfl

theorem State.setArbiter_switchSet (s : State) (g m a : Nat) (p : Client) (x : Nat) (r : PortResult) :
    s.SwitchSet ((s.setArbiter g m a p x).finishWrite r []) := by
  rw [State.setArbiter_eq]
  exact (s.settingsMoved_switchSet g m a p x).trans ((State.masksFor_switchKept _ _).stateCheck.finishWrite r [])

/-- A restart parks by R108's table. -/
theorem State.restartAll_switchSet (s : State) : s.SwitchSet s.restartAll := by
  have arb : s.restartAll.arb = s.restartArbiter := rfl
  have policy : s.restartAll.policy = s.policy := rfl
  by_cases home : s.arb.position = s.policy.defaultPos
  · cases guard : s.arb.mode.guardEnd with
    | none =>
      have parked := arb.trans (State.restartArbiter_free home guard)
      refine ⟨fun _ => ?_, fun _ _ => ⟨guard, by rw [parked]⟩⟩
      simpa [State.switchFollows, parked, policy] using home
    | some g =>
      have parked := arb.trans (State.restartArbiter_kept home guard)
      refine ⟨fun _ => ?_, fun _ none => ?_⟩
      · simpa [State.switchFollows, parked, policy] using home
      · rw [parked] at none; cases none
  · by_cases zero : s.policy.guardTime = 0
    · have parked := arb.trans (State.restartArbiter_moved_zero home zero)
      exact ⟨fun _ => by simp [State.switchFollows, parked, policy], fun time => absurd zero time⟩
    · have parked := arb.trans (State.restartArbiter_moved home zero)
      refine ⟨fun _ => by simp [State.switchFollows, parked, policy], fun _ none => ?_⟩
      rw [parked] at none
      cases none

/-- A row that is no reset and no guard's end leaves the switch as the arbiter's state has it. -/
theorem exec_switchSet (i : Instr) (reset : Instr.isReset i = false) (settling : i ≠ .guardEndSettling)
    (parking : i ≠ .guardEndParking) (he : exec i s = .next t) : s.SwitchSet t := by
  by_cases high : s.resetn = true
  · cases i with
    | resetEnd p => cases reset
    | resetnLow => cases reset
    | guardEndSettling => exact absurd rfl settling
    | guardEndParking => exact absurd rfl parking
    | setArbiter g m a p x =>
      rw [exec_setArbiter high] at he
      cases he
      exact s.setArbiter_switchSet _ _ _ _ _ _
    | restart =>
      rw [exec_restart high] at he
      cases he
      exact s.restartAll_switchSet.trans ((State.SwitchKept.refl _).finishWrite _ _)
    | _ => exact (exec_switchKept _ rfl he).set
  · rw [exec_held (by simpa using high) reset] at he
    cases he
    exact ⟨id, fun _ none => ⟨none, rfl⟩⟩

/-- The end of a guard, taken once its deadline is reached, or no change (R96, R97). -/
theorem exec_guardEnd {i : Instr} (hi : i = .guardEndSettling ∨ i = .guardEndParking) (he : exec i s = .next t) :
    t = s ∨ t = s.endGuard ∧ ∃ g, s.arb.mode.guardEnd = some g ∧ reached s.clock g = true := by
  rcases hi with rfl | rfl <;> cases he <;> split
  · dsimp only
    split
    · rename_i c g hm
      split
      · rename_i due
        exact .inr ⟨by simp [State.endGuard, hm], g, by rw [hm]; rfl, due⟩
      · exact .inl rfl
    · exact .inl rfl
  · exact .inl rfl
  · dsimp only
    split
    · rename_i g hm
      split
      · rename_i due
        exact .inr ⟨by simp [State.endGuard, hm], g, by rw [hm]; rfl, due⟩
      · exact .inl rfl
    · exact .inl rfl
  · exact .inl rfl

theorem State.endGuard_position (s : State) : s.endGuard.arb.position = s.arb.position := by
  unfold State.endGuard
  split
  · exact s.setMode_position _
  · exact s.setMode_position _
  · rfl

theorem exec_switchFollows (i : Instr) (h : s.switchFollows) (he : exec i s = .next t) : t.switchFollows := by
  by_cases reset : Instr.isReset i = true
  · obtain ⟨p, rfl⟩ | rfl := (Instr.isReset_iff i).mp reset <;> cases he <;> exact rfl
  by_cases guard : i = .guardEndSettling ∨ i = .guardEndParking
  · rcases exec_guardEnd guard he with rfl | ⟨rfl, _⟩
    · exact h
    · exact State.endGuard_switchFollows h
  · obtain ⟨settling, parking⟩ := not_or.mp guard
    exact (exec_switchSet i (by simpa using reset) settling parking he).follows h

end Switch

/-- Settles O58. -/
theorem everyStepKeepsPolicySwitchAndMasks : Obligations.EveryStepKeepsPolicySwitchAndMasks := by
  refine ⟨fun s t range h => ?policy, fun s t follows h => ?switch, fun s t masks h => ?masks⟩ <;>
    rcases step_cases h with ⟨i, q, k, hi⟩ | ⟨_, rfl⟩ | rfl
  case policy.inl => exact exec_inRange (s := { s with pending := q, freeIndex := k }) i range hi
  case switch.inl => exact exec_switchFollows (s := { s with pending := q, freeIndex := k }) i follows hi
  case masks.inl => exact exec_masksFollow (s := { s with pending := q, freeIndex := k }) i masks hi
  all_goals assumption

/-! ## The switch and the GNT lines -/

section Lines

variable {s t : State} {c : Client}

theorem State.gnt_iff : s.gnt c = true ↔ s.resetn = true ∧ s.arb.mode = .held c := by simp [State.gnt]

/-- While a GNT is high no guard runs (R89, R92). -/
theorem State.gnt_unguarded (h : s.gnt c = true) : s.arb.mode.guardEnd = none := by
  rw [(State.gnt_iff.mp h).2]
  rfl

/-- After a reset every GNT is low (R92, R109). -/
theorem exec_reset_gnt {i : Instr} (reset : Instr.isReset i = true) (he : exec i s = .next t) (c : Client) :
    t.gnt c = false := by
  obtain ⟨p, rfl⟩ | rfl := (Instr.isReset_iff i).mp reset <;> cases he <;> rfl

/-- A row that moves the switch leaves every GNT low, with a guard time above 0 (R90, R91). -/
theorem exec_moves_gnt (i : Instr) (he : exec i s = .next t) (time : t.policy.guardTime ≠ 0)
    (moved : t.arb.position ≠ s.arb.position) (c : Client) : t.gnt c = false := by
  by_cases reset : Instr.isReset i = true
  · exact exec_reset_gnt reset he c
  by_cases guard : i = .guardEndSettling ∨ i = .guardEndParking
  · rcases exec_guardEnd guard he with rfl | ⟨rfl, _⟩
    · exact absurd rfl moved
    · exact absurd s.endGuard_position moved
  · obtain ⟨settling, parking⟩ := not_or.mp guard
    have kept := exec_switchSet i (by simpa using reset) settling parking he
    exact Bool.eq_false_iff.mpr fun high => moved (kept.unguarded time (State.gnt_unguarded high)).2

/-- A GNT rises only with the switch at its client's position, and only once a running guard has ended (R90, R91,
R92). -/
theorem exec_gnt_rises (i : Instr) (he : exec i s = .next t) (follows : s.switchFollows)
    (time : t.policy.guardTime ≠ 0) (low : s.gnt c = false) (high : t.gnt c = true) :
    s.arb.position = c ∧ t.arb.position = c ∧ ∀ g, s.arb.mode.guardEnd = some g → reached s.clock g = true := by
  have there : t.arb.position = c := by
    have after := exec_switchFollows i follows he
    unfold State.switchFollows at after
    rwa [(State.gnt_iff.mp high).2] at after
  by_cases reset : Instr.isReset i = true
  · rw [exec_reset_gnt reset he c] at high
    cases high
  by_cases guard : i = .guardEndSettling ∨ i = .guardEndParking
  · rcases exec_guardEnd guard he with rfl | ⟨rfl, g, running, due⟩
    · rw [low] at high
      cases high
    · refine ⟨s.endGuard_position ▸ there, there, fun g' running' => ?_⟩
      cases running.symm.trans running'
      exact due
  · obtain ⟨settling, parking⟩ := not_or.mp guard
    have kept := exec_switchSet i (by simpa using reset) settling parking he
    obtain ⟨none, position⟩ := kept.unguarded time (State.gnt_unguarded high)
    refine ⟨position ▸ there, there, fun g running => ?_⟩
    rw [none] at running
    cases running

end Lines

/-- Settles O59. -/
theorem switchMovesOnlyWithGntLow : Obligations.SwitchMovesOnlyWithGntLow := by
  refine ⟨fun i s t he time moved c => exec_moves_gnt i he time moved c,
    fun i s t c he follows time low high => exec_gnt_rises i he follows time low high, fun s c d hc hd => ?_⟩
  have held := (State.gnt_iff.mp hc).2
  exact ArbiterMode.held.inj (held.symm.trans (State.gnt_iff.mp hd).2)

end Sys2Proof.Machine
end

section
namespace Sys2Proof.Machine

/-! ## The pick -/

section Pick

variable {s : State} {ok : Client → Bool} {c : Client} {w : Nat}

/-- The client comes before every other admitted client of the list: heavier, or of equal weight with the lower tie rank
(R93). -/
def State.LeadsOf (s : State) (ok : Client → Bool) (cs : List Client) (b : Client) (w : Nat) : Prop :=
  ok b = true ∧ s.waitingWeight b = some w ∧
    ∀ d ∈ cs, ∀ v, d ≠ b → ok d = true → s.waitingWeight d = some v →
      v < w ∨ v = w ∧ (s.policy.clients.get b).rank < (s.policy.clients.get d).rank

theorem State.outranks_iff {b : Client} {v : Nat} : s.outranks c w (some (b, v)) = true ↔
    v < w ∨ w = v ∧ (s.policy.clients.get c).rank < (s.policy.clients.get b).rank := by
  simp [State.outranks]

/-- Considering one client more, the leader leads still, under distinct tie ranks (R93). -/
theorem State.LeadsOf.step {cs : List Client} {best : Option (Client × Nat)}
    (ranks : ∀ d e, (s.policy.clients.get d).rank = (s.policy.clients.get e).rank → d = e)
    (all : s.BestOf ok cs best) (h : ∀ b v, best = some (b, v) → s.LeadsOf ok cs b v) (c : Client) :
    ∀ b v, s.pickStep ok best c = some (b, v) → s.LeadsOf ok (c :: cs) b v := by
  intro b v hp
  unfold State.pickStep at hp
  cases weight : s.waitingWeight c with
  | none =>
    rw [weight] at hp
    obtain ⟨hb, hv, leads⟩ := h b v hp
    refine ⟨hb, hv, fun d hd x hdb hok hx => ?_⟩
    rcases List.mem_cons.mp hd with rfl | hd
    · rw [weight] at hx; cases hx
    · exact leads d hd x hdb hok hx
  | some w =>
    rw [weight] at hp
    dsimp only at hp
    split at hp
    · rename_i take
      cases hp
      obtain ⟨hok, hout⟩ := (Bool.and_eq_true _ _).mp take
      refine ⟨hok, weight, fun d hd x hdc hdok hx => ?_⟩
      have hd : d ∈ cs := (List.mem_cons.mp hd).resolve_left hdc
      cases best with
      | none => rw [all d hd hdok] at hx; cases hx
      | some y =>
        obtain ⟨y, z⟩ := y
        obtain ⟨_, hz, leads⟩ := h y z rfl
        have out := State.outranks_iff.mp hout
        by_cases hdy : d = y
        · subst hdy
          obtain rfl : x = z := Option.some.inj (hx.symm.trans hz)
          omega
        · have := leads d hd x hdy hdok hx
          omega
    · rename_i leave
      obtain ⟨hb, hv, leads⟩ := h b v hp
      refine ⟨hb, hv, fun d hd x hdb hdok hx => ?_⟩
      rcases List.mem_cons.mp hd with rfl | hd
      · obtain rfl : x = w := Option.some.inj (hx.symm.trans weight)
        have differ : (s.policy.clients.get d).rank ≠ (s.policy.clients.get b).rank := fun same => hdb (ranks d b same)
        have stays : ¬ (v < x ∨ x = v ∧ (s.policy.clients.get d).rank < (s.policy.clients.get b).rank) := by
          rw [← State.outranks_iff, ← hp]
          exact fun out => leave (by simp [hdok, out])
        omega
      · exact leads d hd x hdb hdok hx

theorem State.pick_leads (ranks : ∀ d e, (s.policy.clients.get d).rank = (s.policy.clients.get e).rank → d = e)
    (h : s.pick ok = some (c, w)) : s.LeadsOf ok [.ar, .sr, .nr] c w := by
  have start : s.BestOf ok [] none := nofun
  have leads := State.LeadsOf.step (s := s) (ok := ok) (cs := []) (best := none) ranks start nofun .nr
  have leads := State.LeadsOf.step ranks (start.step .nr) leads .sr
  have leads := State.LeadsOf.step ranks ((start.step .nr).step .sr) leads .ar
  rw [State.pick_eq_steps] at h
  exact leads c w h

theorem State.pick_eq_none_iff : s.pick ok = none ↔ ∀ c, ok c = true → s.waitingClaims c = [] :=
  ⟨fun h _ hc => not_not.mp (State.not_waits_of_pick_none h hc), State.pick_eq_none⟩

/-- The pick is the one client that comes before every other (R93). -/
theorem State.pick_eq_some_iff
    (ranks : ∀ d e, (s.policy.clients.get d).rank = (s.policy.clients.get e).rank → d = e) :
    s.pick ok = some (c, w) ↔ ok c = true ∧ s.waitingWeight c = some w ∧
      ∀ d v, d ≠ c → ok d = true → s.waitingWeight d = some v →
        v < w ∨ v = w ∧ (s.policy.clients.get c).rank < (s.policy.clients.get d).rank := by
  constructor
  · intro h
    obtain ⟨hok, hw, leads⟩ := State.pick_leads ranks h
    exact ⟨hok, hw, fun d => leads d (Client.mem_all d)⟩
  · rintro ⟨hok, hw, first⟩
    cases hp : s.pick ok with
    | none =>
      rw [(s.waitingWeight_eq_none_iff c).mpr (State.pick_eq_none_iff.mp hp c hok)] at hw
      cases hw
    | some x =>
      obtain ⟨b, v⟩ := x
      obtain ⟨hb, hv, leads⟩ := State.pick_leads ranks hp
      by_cases same : b = c
      · subst same
        rw [Option.some.inj (hv.symm.trans hw)]
      · have before := first b v same hb hv
        have after := leads c (Client.mem_all c) w (Ne.symm same) hok hw
        omega

theorem State.waitingWeight_eq_some_iff : s.waitingWeight c = some w ↔
    (∃ x ∈ s.waitingClaims c, s.weightOf c x = w) ∧ ∀ x ∈ s.waitingClaims c, s.weightOf c x ≤ w := by
  simp only [State.waitingWeight, largest_eq_some_iff, List.mem_map, forall_exists_index, and_imp,
    forall_apply_eq_imp_iff₂]

theorem State.holdingWeight_eq_some_iff : s.holdingWeight c = some w ↔
    (∃ x ∈ s.holdingClaims c, s.weightOf c x = w) ∧ ∀ x ∈ s.holdingClaims c, s.weightOf c x ≤ w := by
  simp only [State.holdingWeight, largest_eq_some_iff, List.mem_map, forall_exists_index, and_imp,
    forall_apply_eq_imp_iff₂]

end Pick

/-- Settles O40. -/
theorem pickIsTheHeaviestClient : Obligations.PickIsTheHeaviestClient :=
  ⟨fun _ _ _ _ ranks => State.pick_eq_some_iff ranks, fun _ _ => State.pick_eq_none_iff,
    fun _ _ _ => State.waitingWeight_eq_some_iff, fun _ _ _ => State.holdingWeight_eq_some_iff,
    State.mem_waitingClaims, State.mem_holdingClaims⟩

/-! ## The weight of a claim -/

section Weight

variable {s : State} {c : Client}

theorem claimWeight_eq (r : ClassRow) (d : Nat) (u : Bool) (p : Nat) : (claimWeight r d u p : Int) =
    max 0 (8 * (r.base : Int) + r.step * d + 8 * (if u = true ∧ r.urgent = true then 1 else 0) - 2 * p) := by
  have bonus : (if (u && r.urgent) = true then 8 else 0 : Nat) = 8 * if u = true ∧ r.urgent = true then 1 else 0 := by
    simp only [Bool.and_eq_true]
    split <;> rfl
  have cast : ((r.step * d : Nat) : Int) = (r.step : Int) * d := Int.natCast_mul _ _
  unfold claimWeight
  rw [bonus, ← cast]
  generalize r.step * d = x
  split <;> omega

theorem claimWeight_le {r : ClassRow} {d : Nat} (hr : r.inRange) (hd : d ≤ 15) (u : Bool) (p : Nat) :
    claimWeight r d u p ≤ 173 := by
  obtain ⟨base, step, _⟩ := hr
  have denied : r.step * d ≤ 3 * 15 := Nat.mul_le_mul step hd
  unfold claimWeight
  split <;> omega

theorem State.weightOf_le (policy : s.policy.inRange) (flows : ∀ f ∈ s.flows, f.inRange) (x : Nat × Bool) :
    s.weightOf c x ≤ 173 := by
  unfold State.weightOf
  split
  · omega
  · rename_i f hf
    obtain ⟨_, _, _, streak, _⟩ := flows f (State.flowAt_some hf).1
    exact claimWeight_le (policy.1 _) streak _ _

/-- A state in which a claim has the largest weight: base priority 15, aging step 3, streak 15, the urgency bonus and no
penalty. -/
def State.heaviest : State :=
  { State.reset with
    policy := { Policy.powerOn with classes := Policy.powerOn.classes.setRow .voice ⟨15, 3, true, true, 5000⟩ }
    flows := [⟨0, .nr, 1, .voice, none, 15, 0, 0, 0, 0, 0⟩]
    live := State.reset.live.set .nr { State.reset.live.get .nr with state := .waiting true 0, binding := some 0 } }

theorem State.heaviest_inRange : State.heaviest.policy.inRange ∧ ∀ f ∈ State.heaviest.flows, f.inRange := by
  refine ⟨Policy.powerOn_inRange.setRow .voice ⟨by decide, by decide, by decide, by decide⟩, fun f hf => ?_⟩
  rw [List.mem_singleton.mp hf]
  unfold Flow.inRange
  decide

end Weight

/-- Settles O39. -/
theorem claimWeightFormula : Obligations.ClaimWeightFormula := by
  refine ⟨fun s c k u f hf => ?_, fun s c x policy flows => State.weightOf_le policy flows x, fun s c k => ?_,
    fun s c k => ?_, State.heaviest, .nr, (0, true), State.heaviest_inRange.1, State.heaviest_inRange.2, ?_, ?_⟩
  · rw [State.weightOf, hf]
    exact claimWeight_eq _ _ _ _
  · simp [State.mem_waitingClaims]
  · simp [State.mem_holdingClaims]
  · decide
  · decide

end Sys2Proof.Machine
end

section
namespace Sys2Proof.Machine

/-! ## The hand-off's tables -/

section HandOff

variable {s : State} {c : Client}

/-- With nobody waiting the hand-off is the park (R94). -/
theorem State.handOff_nobody (h : ∀ c, s.waitingClaims c = []) : s.handOff = s.park := by
  have none := State.pick_eq_none (s := s) (ok := fun _ => true) fun c _ => h c
  unfold State.handOff
  rw [none]

theorem State.setMode_arb (s : State) (m : ArbiterMode) : (s.setMode m).arb = ⟨m, s.arb.position⟩ := by
  rw [s.setMode_eq]

theorem State.settleToward_arb (s : State) (d : Client) : (s.settleToward d).arb = ⟨.settling d s.newGuard, d⟩ := by
  rw [s.settleToward_eq]
  rfl

theorem State.moveToDefault_arb (s : State) :
    s.moveToDefault.arb = ⟨.parking s.newGuard, s.policy.defaultPos⟩ := by
  change (⟨(s.setMode (.parking s.newGuard)).arb.mode, s.policy.defaultPos⟩ : Arbiter) = _
  rw [State.setMode_mode]

/-- A park writes the arbiter and the accounts alone (R94). -/
theorem State.park_frame (s : State) : s.park = { s with arb := s.park.arb, acct := s.park.acct } := by
  rcases s.park_cases with ⟨_, _, e⟩ | ⟨g, _, _, e⟩ | ⟨_, e⟩ <;> rw [e]
  · exact (s.setMode_eq _).trans (by rw [State.setMode_arb])
  · exact (s.setMode_eq _).trans (by rw [State.setMode_arb])
  · unfold State.moveToDefault
    rw [s.setMode_eq]
    rfl

theorem State.park_away (h : s.arb.position ≠ s.policy.defaultPos) :
    s.park.arb = ⟨.parking s.newGuard, s.policy.defaultPos⟩ := by
  rw [State.park, if_neg h, State.moveToDefault_arb]

theorem State.park_guarded {g : AirTime} (h : s.arb.position = s.policy.defaultPos)
    (guard : s.arb.mode.guardEnd = some g) : s.park.arb = ⟨.parking g, s.arb.position⟩ := by
  rw [State.park, if_pos h, guard]
  exact s.setMode_arb _

theorem State.park_free (h : s.arb.position = s.policy.defaultPos) (guard : s.arb.mode.guardEnd = none) :
    s.park.arb = ⟨.free, s.arb.position⟩ := by
  rw [State.park, if_pos h, guard]
  exact s.setMode_arb _

theorem State.handOff_away {w : Nat} (hp : s.pick (fun _ => true) = some (c, w)) (h : s.arb.position ≠ c) :
    s.handOff.arb = ⟨.settling c s.newGuard, c⟩ := by
  unfold State.handOff
  rw [hp]
  dsimp only
  rw [if_neg h, State.settleToward_arb]

theorem State.handOff_guarded {w : Nat} {g : AirTime} (hp : s.pick (fun _ => true) = some (c, w))
    (h : s.arb.position = c) (guard : s.arb.mode.guardEnd = some g) : s.handOff.arb = ⟨.settling c g, c⟩ := by
  unfold State.handOff
  rw [hp]
  dsimp only
  rw [if_pos h, guard, ← h]
  exact s.setMode_arb _

theorem State.handOff_granted {w : Nat} (hp : s.pick (fun _ => true) = some (c, w)) (h : s.arb.position = c)
    (guard : s.arb.mode.guardEnd = none) : s.handOff = s.grant c := by
  unfold State.handOff
  rw [hp]
  dsimp only
  rw [if_pos h, guard]

theorem State.grant_arb (s : State) (c : Client) : (s.grant c).arb = ⟨.held c, s.arb.position⟩ := s.setMode_arb _

/-- A client that waits alone is the pick (R93). -/
theorem State.pick_alone (waits : s.waits c) (alone : ∀ d, d ≠ c → ¬ s.waits d) :
    ∃ w, s.pick (fun _ => true) = some (c, w) := by
  cases hp : s.pick (fun _ => true) with
  | none => exact absurd waits (State.not_waits_of_pick_none hp rfl)
  | some x =>
    obtain ⟨d, w⟩ := x
    have only : d = c := by_contra fun other => alone d other (State.waits_of_pick hp)
    exact ⟨w, by rw [only]⟩

end HandOff

/-! ## A REQ rise -/

section ReqRise

variable {s t u : State} {c : Client} {k : Nat} {p : Bool} {d : AirTime}

/-- A REQ rise has made a waiting live claim, before the arbiter's answer (R114, R115). -/
def State.risen (s : State) (c : Client) : State :=
  { s with live := s.live.set c { s.live.get c with
    reqLevel := true
    state := .waiting (s.live.get c).prioLevel (s.clock + BitVec.ofNat 32 s.policy.agingInterval) } }

theorem exec_reqRise_makes (high : s.resetn = true) (low : (s.live.get c).reqLevel = false)
    (admitted : s.admitted c = true) (bound : (s.live.get c).binding = some k) (idle : (s.live.get c).state = .idle) :
    exec (.reqRise c) s = .next ((s.risen c).claimArrived c) := by
  have makes : s.riseMakesClaim c = true := by simp [State.riseMakesClaim, admitted, bound, idle]
  simp only [exec, execReqRise, s.whenRunning_high _ high, low, makes, if_true]
  rfl

theorem exec_reqRise_recorded (high : s.resetn = true) (low : (s.live.get c).reqLevel = false)
    (off : s.admitted c = false ∨ (s.live.get c).binding = none ∨ (s.live.get c).state ≠ .idle) :
    exec (.reqRise c) s = .next { s with live := s.live.set c { s.live.get c with reqLevel := true } } := by
  have makes : s.riseMakesClaim c = false := by
    unfold State.riseMakesClaim
    rcases off with away | unbound | busy
    · simp [away]
    · simp [unbound]
    · simp [busy]
  simp only [exec, execReqRise, s.whenRunning_high _ high, low, makes]
  rfl

theorem State.risen_claim (s : State) (c : Client) :
    (s.risen c).live.get c = { s.live.get c with
      reqLevel := true
      state := .waiting (s.live.get c).prioLevel (s.clock + BitVec.ofNat 32 s.policy.agingInterval) } :=
  PerClient.get_set_same _ _ _

theorem State.risen_waits (bound : (s.live.get c).binding = some k) : (s.risen c).waits c := by
  refine State.waits_iff.mpr (.inl ?_)
  rw [State.risen_claim]
  exact ⟨⟨_, _, rfl⟩, by simp [bound]⟩

theorem State.risen_other (s : State) {c d : Client} (hd : d ≠ c) : s.SameStanding (s.risen c) d :=
  s.onLive_other (fun _ => _) hd

/-- The client's live claim waits on as it stood, or holds, granted now, its client the holder (R96). -/
def State.WaitsOrHolds (s : State) (c : Client) (p : Bool) (d : AirTime) : Prop :=
  (s.live.get c).state = .waiting p d ∨
    s.arb.mode = .held c ∧ ∃ e, (s.live.get c).state = .holding p s.clock e

theorem State.grantLive_bound {l : LiveClaim} (waits : l.state = .waiting p d) (bound : l.binding ≠ none) :
    ∃ e, (s.grantLive l).state = .holding p s.clock e := by
  obtain ⟨k, binding⟩ := Option.ne_none_iff_exists'.mp bound
  exact ⟨after s.clock (s.holdLimitOf k), by simp [State.grantLive, waits, binding]⟩

/-- A join or the act of a grant turns the claim holding where it is the holder's (R96). -/
theorem State.WaitsOrHolds.turnHolding (waits : (s.live.get c).state = .waiting p d)
    (bound : (s.live.get c).binding ≠ none) {h : Client} (held : s.arb.mode = .held h) :
    (s.turnHolding h).WaitsOrHolds c p d := by
  by_cases own : c = h
  · subst own
    refine .inr ⟨held, ?_⟩
    have live : (s.turnHolding c).live.get c = s.grantLive (s.live.get c) := PerClient.get_set_same _ _ _
    rw [live]
    exact State.grantLive_bound waits bound
  · have live : (s.turnHolding h).live.get c = s.live.get c := PerClient.get_set_other _ _ _ _ own
    exact .inl (live ▸ waits)

theorem State.WaitsOrHolds.grant (waits : (s.live.get c).state = .waiting p d)
    (bound : (s.live.get c).binding ≠ none) (h : Client) : (s.grant h).WaitsOrHolds c p d :=
  .turnHolding (s := s.setMode (.held h)) (by simpa using waits) (by simpa using bound) (s.setMode_mode _)

theorem State.WaitsOrHolds.handOff (waits : (s.live.get c).state = .waiting p d)
    (bound : (s.live.get c).binding ≠ none) : s.handOff.WaitsOrHolds c p d := by
  rcases s.handOff_cases with ⟨_, e⟩ | ⟨h, w, _, ⟨_, _, e⟩ | ⟨g, _, _, e⟩ | ⟨_, e⟩⟩ <;> rw [e]
  · rw [s.park_frame]
    exact .inl waits
  · exact .grant waits bound h
  · exact .inl (by simpa using waits)
  · rw [s.settleToward_eq]
    exact .inl waits

theorem State.displacementCheck_live (s : State) : s.displacementCheck.live = s.live := by
  rcases s.displacementCheck_cases with e | ⟨_, _, h, _, _, _, _, e⟩ <;> rw [e]
  rw [s.settleToward_eq]

/-- A preemption leaves the live claims of the other clients (R102). -/
theorem State.preemptionCheck_live {h : Client} (held : s.arb.mode = .held h) (other : c ≠ h) :
    s.preemptionCheck.live.get c = s.live.get c := by
  rcases s.preemptionCheck_cases with e | ⟨x, y, _, hm, _, _, _, e⟩ <;> rw [e]
  cases held.symm.trans hm
  have live : (s.preempt h y).live = (s.preempted h y).live := by
    rw [State.preempt_eq]
    split
    · rfl
    · exact State.displacementCheck_live _
  rw [live, State.preempted_live, PerClient.get_set_other _ _ _ _ other]

theorem State.WaitsOrHolds.passZeroGuard (h : t.WaitsOrHolds c p d) (bound : (t.live.get c).binding ≠ none) (b : State) :
    (b.passZeroGuard t).WaitsOrHolds c p d := by
  rcases b.passZeroGuard_cases t with e | ⟨_, _, _, e⟩ <;> rw [e]
  · exact h
  · rcases h with waits | ⟨held, holds⟩
    · unfold State.endGuard
      split
      · exact .grant waits bound _
      · exact .inl (by simpa using waits)
      · exact .inl waits
    · rw [State.endGuard, held]
      exact .inr ⟨held, holds⟩

/-- After the arbiter's answer to its arrival a live claim waits on, or holds at once (R95). -/
theorem State.WaitsOrHolds.claimArrived (waits : (s.live.get c).state = .waiting p d)
    (bound : (s.live.get c).binding ≠ none) : (s.claimArrived c).WaitsOrHolds c p d := by
  have kept {t : State} (ht : KeepsAllBut (fun _ => False) s t) : (t.live.get c).binding ≠ none := by
    have same : (t.live.get c).binding = (s.live.get c).binding := ht (.binding c) id
    rwa [same]
  cases hm : s.arb.mode with
  | free =>
    simp only [State.claimArrived, hm]
    exact (State.WaitsOrHolds.handOff waits bound).passZeroGuard
      (kept ((arbiterClosed_keepsAllBut _).handOff s)) s
  | parking g =>
    simp only [State.claimArrived, hm]
    exact (State.WaitsOrHolds.handOff waits bound).passZeroGuard
      (kept ((arbiterClosed_keepsAllBut _).handOff s)) s
  | settling n g =>
    by_cases next : c = n
    · subst next
      rw [State.claimArrived_next hm]
      exact .inl waits
    · rw [State.claimArrived_settling hm next]
      exact State.WaitsOrHolds.passZeroGuard (.inl (by rw [State.displacementCheck_live]; exact waits))
        (by rw [State.displacementCheck_live]; exact bound) s
  | held h =>
    by_cases holder : c = h
    · subst holder
      rw [State.claimArrived_holder hm]
      exact .turnHolding waits bound hm
    · rw [State.claimArrived_held hm holder]
      have live := State.preemptionCheck_live hm holder
      exact State.WaitsOrHolds.passZeroGuard (.inl (by rw [live]; exact waits)) (by rw [live]; exact bound) s

end ReqRise

/-- Settles O33. -/
theorem reqRiseMakesTheClaim : Obligations.ReqRiseMakesTheClaim := by
  refine ⟨fun s c high low off => exec_reqRise_recorded high low off,
    fun s c k high low admitted bound idle => exec_reqRise_makes high low admitted bound idle,
    fun s c k high low admitted bound idle => ?claim, fun s c k g high low admitted bound idle settling => ?next⟩
  case claim =>
    have keeps : KeepsAllBut (fun _ => False) (s.risen c) ((s.risen c).claimArrived c) :=
      (arbiterClosed_keepsAllBut _).claimArrived (s.risen c) c
    have level : (((s.risen c).claimArrived c).live.get c).reqLevel = ((s.risen c).live.get c).reqLevel :=
      keeps (.reqLevel c) id
    have binding : (((s.risen c).claimArrived c).live.get c).binding = ((s.risen c).live.get c).binding :=
      keeps (.binding c) id
    have resetn : ((s.risen c).claimArrived c).resetn = s.resetn := keeps .resetn id
    have clock : ((s.risen c).claimArrived c).clock = s.clock := keeps .clock id
    rw [State.risen_claim] at level binding
    refine ⟨_, exec_reqRise_makes high low admitted bound idle, level, binding.trans bound, ?_⟩
    have stands : ((s.risen c).claimArrived c).WaitsOrHolds c (s.live.get c).prioLevel
        (s.clock + BitVec.ofNat 32 s.policy.agingInterval) :=
      .claimArrived (by rw [State.risen_claim]) (by rw [State.risen_claim]; simp [bound])
    rcases stands with waits | ⟨held, holds⟩
    · exact .inl waits
    · rw [clock] at holds
      exact .inr ⟨State.gnt_iff.mpr ⟨resetn.trans high, held⟩, holds⟩
  case next =>
    rw [exec_reqRise_makes high low admitted bound idle]
    exact congrArg _ (State.claimArrived_next (s := s.risen c) (g := g) settling)

end Sys2Proof.Machine
end

section
namespace Sys2Proof.Machine

/-! ## A REQ fall -/

section ReqFall

variable {s : State} {c : Client}

/-- A REQ fall has returned the live claim to IDLE, before the arbiter's answer (R121, R122). -/
def State.released (s : State) (c : Client) : State :=
  { s with live := s.live.set c { s.live.get c with state := .idle, reqLevel := false } }

theorem State.released_claim (s : State) (c : Client) :
    (s.released c).live.get c = { s.live.get c with state := .idle, reqLevel := false } := PerClient.get_set_same _ _ _

theorem State.released_other (s : State) {c d : Client} (hd : d ≠ c) : s.SameStanding (s.released c) d :=
  s.onLive_other (fun _ => _) hd

theorem exec_reqFall_onBoard (high : s.resetn = true) (level : (s.live.get c).reqLevel = true)
    (on : (s.live.get c).onBoard = true) : exec (.reqFall c) s = .next (s.claimsLeft (s.released c) c) := by
  simp only [exec, execReqFall, s.whenRunning_high _ high, level, on, if_true, Bool.true_eq_false, if_false]
  rfl

theorem exec_reqFall_offBoard (high : s.resetn = true) (level : (s.live.get c).reqLevel = true)
    (off : (s.live.get c).onBoard = false) : exec (.reqFall c) s = .next (s.released c) := by
  simp only [exec, execReqFall, s.whenRunning_high _ high, level, off, Bool.true_eq_false, if_false, Bool.false_eq_true]
  rfl

theorem LiveClaim.onBoard_iff (l : LiveClaim) :
    l.onBoard = true ↔ (∃ u d, l.state = .waiting u d) ∨ ∃ u a d, l.state = .holding u a d := by
  unfold LiveClaim.onBoard
  cases l.state <;> simp

/-- The release of a client's last claim leaves it no claim on the board. -/
theorem State.released_gone (held : s.heldSlots c = []) (due : s.dueSlots c = []) :
    (s.released c).waitingClaims c = [] ∧ (s.released c).holdingClaims c = [] := by
  have idle : ((s.released c).live.get c).state = .idle := by rw [State.released_claim]
  have dueAfter : (s.released c).dueSlots c = [] := due
  have heldAfter : (s.released c).heldSlots c = [] := held
  constructor
  · rw [State.waitingClaims, dueAfter, State.liveWaiting, idle]
    rfl
  · rw [State.holdingClaims, heldAfter, State.liveHolding, idle]
    rfl

/-- A released live claim is IDLE after the arbiter's answer too, which grants and cuts live claims of the board alone. -/
theorem State.released_answered (s : State) (c : Client) :
    (s.claimsLeft (s.released c) c).live.get c = { s.live.get c with state := .idle, reqLevel := false } :=
  (arbiterClosed_idleLive.claimsLeft s (s.released c) c c (by rw [State.released_claim])).trans (s.released_claim c)

theorem LiveClaim.onBoard_of_liveHolding (h : s.liveHolding c ≠ none) : (s.live.get c).onBoard = true := by
  unfold State.liveHolding at h
  unfold LiveClaim.onBoard
  cases hl : (s.live.get c).state <;> simp_all

end ReqFall

/-- Settles O34. -/
theorem reqFallReleases : Obligations.ReqFallReleases := by
  refine ⟨fun s c high level off => ?off, fun s c high level => ?released, fun s c high level on => ?on,
    fun s c x high => ?prio⟩
  case off => exact exec_reqFall_offBoard high level (by rcases off with e | e <;> simp [LiveClaim.onBoard, e])
  case released =>
    by_cases on : (s.live.get c).onBoard = true
    · refine ⟨_, exec_reqFall_onBoard high level on, s.released_answered c, fun _ _ held due => ?_⟩
      obtain ⟨waiting, holding⟩ := State.released_gone held due
      obtain ⟨without, _, preemptions⟩ := State.claimsLeft_gone s waiting holding
      exact ⟨State.without_gnt without, preemptions⟩
    · exact ⟨_, exec_reqFall_offBoard high level (by simpa using on), s.released_claim c,
        fun _ holding => absurd (LiveClaim.onBoard_of_liveHolding holding) on⟩
  case on => exact exec_reqFall_onBoard high level ((LiveClaim.onBoard_iff _).mpr on)
  case prio => exact s.whenRunning_high (fun s => s.onLive c fun l => { l with prioLevel := x }) high

/-! ## The arrivals and the release at rest -/

section Tables

variable {s : State} {c : Client} {k : Nat}

/-- The rise of a client that waits alone at rest is answered by the hand-off, and it is the pick (R95). -/
theorem State.risen_answered (bound : (s.live.get c).binding = some k) (nobody : ∀ d, s.waitingClaims d = [])
    (time : s.policy.guardTime ≠ 0) (rest : s.arb.mode = .free ∨ ∃ g, s.arb.mode = .parking g) :
    (s.risen c).claimArrived c = (s.risen c).handOff ∧ ∃ w, (s.risen c).pick (fun _ => true) = some (c, w) := by
  have mode : (s.risen c).arb.mode = s.arb.mode := rfl
  have kept : (s.risen c).handOff.policy.guardTime ≠ 0 := by
    rw [(s.risen c).handOff_keeps.policy]
    exact time
  refine ⟨?_, State.pick_alone (State.risen_waits bound) fun d hd waits => (s.risen_other hd).waits.mp waits (nobody d)⟩
  rw [← State.passZeroGuard_of_ne (s.risen c) _ kept]
  unfold State.claimArrived
  rcases rest with e | ⟨g, e⟩ <;> rw [mode, e]

/-- With the holder's last claim released and nobody waiting, the arbiter parks (R98). -/
theorem State.released_parks (held : s.arb.mode = .held c) (slots : s.heldSlots c = [])
    (nobody : ∀ d, s.waitingClaims d = []) (time : s.policy.guardTime ≠ 0) :
    s.claimsLeft (s.released c) c = (s.released c).park := by
  have due : s.dueSlots c = [] := List.map_eq_nil_iff.mp (List.append_eq_nil_iff.mp (nobody c)).2
  obtain ⟨waiting, holding⟩ := State.released_gone slots due
  have after (d : Client) : (s.released c).waitingClaims d = [] := by
    by_cases own : d = c
    · rw [own]; exact waiting
    · exact not_not.mp fun waits => (s.released_other own).waits.mp waits (nobody d)
  have kept : (s.released c).handOff.policy.guardTime ≠ 0 := by
    rw [(s.released c).handOff_keeps.policy]
    exact time
  rw [s.claimsLeft_held_none (s := s.released c) held holding, State.passZeroGuard_of_ne _ _ kept,
    State.handOff_nobody after]

end Tables

/-- Settles O37. -/
theorem handOffFollowsTheTables : Obligations.HandOffFollowsTheTables := by
  refine ⟨fun s nobody => ?park, fun s c w hp => ?pick,
    fun s c k high low admitted bound idle nobody time => ?arrival,
    fun s c high level held holding slots nobody time => ?release⟩
  case park =>
    rw [State.handOff_nobody nobody]
    exact ⟨s.park_frame, fun g home guard => State.park_guarded home guard, State.park_free, State.park_away⟩
  case pick =>
    refine ⟨fun g there guard => State.handOff_guarded hp there guard, fun there guard => ?_, State.handOff_away hp⟩
    rw [State.handOff_granted hp there guard, State.grant_arb, there]
    exact ⟨rfl, State.turnHolding_waitingClaims⟩
  case arrival =>
    have resetn : ((s.risen c).claimArrived c).resetn = true :=
      ((s.risen c).claimArrived_keeps c).resetn.trans high
    have answered := State.risen_answered bound nobody time
    refine ⟨_, exec_reqRise_makes high low admitted bound idle, fun free there => ?_, fun free away => ?_,
      fun g parking there => ?_, fun g parking away => ?_⟩
    · obtain ⟨e, w, hp⟩ := answered (.inl free)
      have guard : (s.risen c).arb.mode.guardEnd = none := by
        change s.arb.mode.guardEnd = none
        rw [free]
        rfl
      have granted : ((s.risen c).claimArrived c).arb = ⟨.held c, c⟩ := by
        rw [e, State.handOff_granted hp there guard, State.grant_arb]
        exact congrArg _ there
      exact ⟨granted, State.gnt_iff.mpr ⟨resetn, congrArg Arbiter.mode granted⟩⟩
    · obtain ⟨e, w, hp⟩ := answered (.inl free)
      rw [e]
      exact State.handOff_away hp away
    · obtain ⟨e, w, hp⟩ := answered (.inr ⟨g, parking⟩)
      have guard : (s.risen c).arb.mode.guardEnd = some g := by
        change s.arb.mode.guardEnd = some g
        rw [parking]
        rfl
      rw [e]
      exact State.handOff_guarded hp there guard
    · obtain ⟨e, w, hp⟩ := answered (.inr ⟨g, parking⟩)
      rw [e]
      exact State.handOff_away hp away
  case release =>
    refine ⟨_, exec_reqFall_onBoard high level (LiveClaim.onBoard_of_liveHolding holding), ?_⟩
    have guard : (s.released c).arb.mode.guardEnd = none := by
      change s.arb.mode.guardEnd = none
      rw [held]
      rfl
    rw [State.released_parks held slots nobody time]
    split
    · rename_i home
      exact State.park_free (s := s.released c) home guard
    · rename_i away
      exact State.park_away (s := s.released c) away

/-! ## Aging and the hold limit -/

section Timers

variable {s : State} {c : Client} {k : Nat}

/-- The arbiter grants and cuts live claims of the board alone. -/
theorem arbiterClosed_offBoardLive :
    ArbiterClosed fun s t => ∀ c, (s.live.get c).onBoard = false → t.live.get c = s.live.get c where
  refl _ := fun _ _ => rfl
  trans h k := fun c hc => (k c (by rw [h c hc]; exact hc)).trans (h c hc)
  setMode s m := by simp
  setPosition _ _ := fun _ _ => rfl
  turnHolding s c := fun d hd => by
    by_cases hdc : d = c
    · subst hdc
      refine (PerClient.get_set_same _ _ _).trans (State.grantLive_of_not_waiting ?_)
      unfold LiveClaim.onBoard at hd
      unfold State.liveWaiting
      cases hl : (s.live.get d).state <;> simp_all
    · exact PerClient.get_set_other _ _ _ _ hdc
  cutHoldings s c := fun d hd => by
    rw [s.cutHoldings_eq c]
    by_cases hdc : d = c
    · subst hdc
      refine (PerClient.get_set_same _ _ _).trans ?_
      unfold LiveClaim.onBoard at hd
      unfold State.cutLive
      cases hl : (s.live.get d).state <;> simp_all
    · exact PerClient.get_set_other _ _ _ _ hdc
  countPreemption _ := fun _ _ => rfl

/-- A flow's identity and its Overstays counter. -/
def Flow.overstayTally (f : Flow) : Nat × Client × Nat × Nat := (f.slot, f.owner, f.handle, f.overstays)

/-- The arbiter counts no overstay in a flow (R55). -/
theorem arbiterClosed_overstayTallies :
    ArbiterClosed fun s t => t.flows.map Flow.overstayTally = s.flows.map Flow.overstayTally where
  refl _ := rfl
  trans h k := Eq.trans k h
  setMode s m := by simp
  setPosition _ _ := rfl
  turnHolding s c := foldl_onSlot_map Flow.overstayTally Flow.won (fun _ => rfl) _ _
  cutHoldings s c := by
    have flows : (s.cutHoldings c).flows = (s.holdingSlots c).foldl (fun fs k => onSlot k Flow.cut fs) s.flows := by
      rw [s.cutHoldings_eq c, foldl_onSlot_cut]
      rfl
    rw [flows]
    exact foldl_onSlot_map Flow.overstayTally Flow.cut (fun _ => rfl) _ _
  countPreemption _ := rfl

/-- What of an overstay the arbiter's later acts leave: the claim SPENT, the counts, and the notices (R120). -/
structure State.OverstayStands (s t : State) (c : Client) (k : Nat) : Prop where
  claim : t.live.get c = { s.live.get c with state := .spent }
  counted : t.acct.overstays = min 65535 (s.acct.overstays + 1)
  notice : (s.sup.get c).state ≠ .detached → (t.links.get c).notices.getLsbD 4 = true
  flows : ∀ f ∈ s.flows, f.slot = k → ∃ g ∈ t.flows, g.slot = k ∧ g.owner = f.owner ∧ g.handle = f.handle ∧
    g.overstays = min 65535 (f.overstays + 1)

theorem State.overstayed_stands (s : State) (c : Client) (k : Nat) : s.OverstayStands (s.overstayed c k) c k where
  claim := PerClient.get_set_same _ _ _
  counted := rfl
  notice present := by
    change ((s.giveNotice c .overstay).links.get c).notices.getLsbD 4 = true
    rw [State.giveNotice_bit]
    simp [present, noticeBit]
  flows f hf slot := ⟨_, List.mem_map.mpr ⟨f, hf, if_pos slot⟩, slot, rfl, rfl, rfl⟩

/-- Live claims off the board, what was reported and the Overstays counters are as they were. -/
def OverstaysKept (s t : State) : Prop :=
  (∀ c, (s.live.get c).onBoard = false → t.live.get c = s.live.get c) ∧ ReportsStand s t ∧
    t.flows.map Flow.overstayTally = s.flows.map Flow.overstayTally

theorem arbiterClosed_overstaysKept : ArbiterClosed OverstaysKept :=
  arbiterClosed_offBoardLive.and (arbiterClosed_reportsStand.and arbiterClosed_overstayTallies)

/-- Whatever the arbiter does, an overstay stands. -/
theorem State.OverstayStands.kept {u t : State} (h : s.OverstayStands u c k) (kept : OverstaysKept u t) :
    s.OverstayStands t c k := by
  obtain ⟨live, ⟨_, ⟨_, overstays⟩, notices⟩, tallies⟩ := kept
  refine ⟨(live c (by rw [h.claim]; rfl)).trans h.claim, overstays.trans h.counted,
    fun present => notices c 4 (h.notice present), fun f hf slot => ?_⟩
  obtain ⟨g, hg, gslot, gowner, ghandle, gcount⟩ := h.flows f hf slot
  have mem : g.overstayTally ∈ t.flows.map Flow.overstayTally := by rw [tallies]; exact List.mem_map_of_mem hg
  obtain ⟨x, hx, same⟩ := List.mem_map.mp mem
  simp only [Flow.overstayTally, Prod.mk.injEq] at same
  obtain ⟨xslot, xowner, xhandle, xcount⟩ := same
  exact ⟨x, hx, xslot.trans gslot, xowner.trans gowner, xhandle.trans ghandle, xcount.trans gcount⟩

/-- The bound flow aged and the next aging deadline set, before the arbiter's check (R116). -/
def State.agedClaim (s : State) (c : Client) (k : Nat) (u : Bool) (d : AirTime) : State :=
  { s with
    flows := onSlot k (fun x => { x with streak := min 15 (x.streak + 1) }) s.flows
    live := s.live.set c { s.live.get c with
      state := .waiting u (d + BitVec.ofNat 32 s.policy.agingInterval) } }

theorem exec_agingExpiry {u : Bool} {d : AirTime} {f : Flow} (high : s.resetn = true)
    (waits : (s.live.get c).state = .waiting u d) (bound : (s.live.get c).binding = some k)
    (hf : s.flowAt k = some f) (due : reached s.clock d = true) :
    exec (.agingExpiry c) s = .next ((s.agedClaim c k u d).stateCheckIf (decide (f.streak < 15))) := by
  have now : s.agingDue c = true := by simp [State.agingDue, waits, due]
  have rises : s.boundStreakRises c = decide (f.streak < 15) := by
    unfold State.boundStreakRises
    rw [bound, Option.bind_some, hf]
    rfl
  have flow : s.onBoundFlow c Flow.aged = s.onFlow k Flow.aged := by simp [State.onBoundFlow, bound]
  have moved : (s.live.get c).nextAging s.policy.agingInterval = { s.live.get c with
      state := .waiting u (d + BitVec.ofNat 32 s.policy.agingInterval) } := by
    rw [LiveClaim.nextAging, waits]
    rfl
  have aged : ((s.onBoundFlow c Flow.aged).onLive c fun l => l.nextAging s.policy.agingInterval) =
      s.agedClaim c k u d := by
    rw [flow, State.agedClaim, ← moved]
    rfl
  simp only [exec, execAgingExpiry, s.whenRunning_high _ high, now, if_true, aged, rises]

theorem exec_holdExpiry {u : Bool} {h d : AirTime} (high : s.resetn = true)
    (holds : (s.live.get c).state = .holding u h d) (bound : (s.live.get c).binding = some k)
    (due : reached s.clock d = true) :
    exec (.holdExpiry c) s = .next (s.claimsLeft (s.overstayed c k) c) := by
  have now : s.holdDue c = true := by simp [State.holdDue, holds, due]
  simp only [exec, execHoldExpiry, s.whenRunning_high _ high, now, if_true, s.expireHold_eq c k bound]

end Timers

/-- Settles O35. -/
theorem liveClaimTimersExpire : Obligations.LiveClaimTimersExpire := by
  refine ⟨fun s c k u d f high waits bound hf due => ?aging, fun s c k u h d high holds bound due => ?hold,
    fun s c u d waits early => ?agingEarly, fun s c u h d holds early => ?holdEarly⟩
  case aging =>
    have row := exec_agingExpiry high waits bound hf due
    refine ⟨s.agedClaim c k u d, rfl, fun below => ?_, fun top => ?_⟩
    · rwa [decide_eq_true below] at row
    · rwa [decide_eq_false (Nat.not_lt.mpr top)] at row
  case hold =>
    have stands := (s.overstayed_stands c k).kept (arbiterClosed_overstaysKept.claimsLeft s (s.overstayed c k) c)
    have port : (s.claimsLeft (s.overstayed c k) c).port = { s.port with flags := s.port.flags ||| 0x020 } :=
      (State.claimsLeft_keeps s (s.overstayed c k) c).port
    exact ⟨_, exec_holdExpiry high holds bound due, rfl, stands.claim, stands.counted, port, stands.notice, stands.flows⟩
  case agingEarly =>
    exact State.whenRunning_unchanged (f := fun s => if s.agingDue c then _ else s)
      (if_neg (by simp [State.agingDue, waits, early]))
  case holdEarly =>
    exact State.whenRunning_unchanged (f := fun s => if s.holdDue c then s.expireHold c else s)
      (if_neg (by simp [State.holdDue, holds, early]))

end Sys2Proof.Machine
end

section
namespace Sys2Proof.Machine

/-! ## SET ARBITER -/

section SetArbiter

variable {s : State} {g m a x : Nat} {p old : Client}

/-- The arbiter gives no MASK (R135). -/
theorem arbiterClosed_noMask : ArbiterClosed fun s t =>
    ∀ c, (t.links.get c).notices.getLsbD 0 = (s.links.get c).notices.getLsbD 0 where
  refl _ := fun _ => rfl
  trans h k := fun c => (k c).trans (h c)
  setMode s m := by simp
  setPosition _ _ := fun _ => rfl
  turnHolding _ _ := fun _ => rfl
  cutHoldings s c := fun d => by
    have links : (s.cutHoldings c).links = s.cutLinks c := by rw [s.cutHoldings_eq c]
    rw [links, State.cutLinks]
    split
    · rfl
    · by_cases hd : d = c
      · subst hd
        rw [PerClient.get_set_same]
        split <;> simp
      · rw [PerClient.get_set_other _ _ _ _ hd]
  countPreemption _ := fun _ => rfl

theorem ArbiterClosed.defaultMoved {R : State → State → Prop} (hR : ArbiterClosed R) (s : State) (old : Client) :
    R s (s.defaultMoved old) := by
  have moved := hR.passZeroGuard (hR.moveToDefault s) s
  unfold State.defaultMoved
  split
  · exact hR.refl s
  · split
    · exact moved
    · exact moved
    · exact hR.refl s

theorem State.defaultMoved_keeps (s : State) (old : Client) : ArbiterKeeps s (s.defaultMoved old) := by
  have moved := State.passZeroGuard_keeps s.moveToDefault_keeps s
  unfold State.defaultMoved
  split
  · exact .refl s
  · split
    · exact moved
    · exact moved
    · exact .refl s

/-- Nothing moves where the default position stays, or the switch stands at the new one (R105). -/
theorem State.defaultMoved_kept (h : s.policy.defaultPos = old ∨ s.arb.position = s.policy.defaultPos) :
    s.defaultMoved old = s := if_pos h

/-- In SETTLING and HELD nothing moves (R105). -/
theorem State.defaultMoved_busy (h : ¬ s.atRest) : s.defaultMoved old = s := by
  unfold State.defaultMoved
  split
  · rfl
  · split
    · rename_i free
      exact absurd (.inl free) h
    · rename_i e parking
      exact absurd (.inr ⟨e, parking⟩) h
    · rfl

theorem State.defaultMoved_rest (rest : s.atRest) (changed : s.policy.defaultPos ≠ old)
    (away : s.arb.position ≠ s.policy.defaultPos) : s.defaultMoved old = s.passZeroGuard s.moveToDefault := by
  unfold State.defaultMoved
  rw [if_neg (not_or.mpr ⟨changed, away⟩)]
  rcases rest with e | ⟨g, e⟩ <;> rw [e]

/-- A guard of length 0 toward the default position is passed at once: the arbiter is FREE there (R91, log entry 9). -/
theorem State.moveToDefault_zero (zero : s.policy.guardTime = 0) (away : s.arb.position ≠ s.policy.defaultPos) :
    (s.passZeroGuard s.moveToDefault).arb = ⟨.free, s.policy.defaultPos⟩ := by
  have arb := s.moveToDefault_arb
  have keeps := s.moveToDefault_keeps
  have started : s.guardStarted s.moveToDefault = true := by
    unfold State.guardStarted
    rw [arb]
    simp [away.symm]
  have due : s.moveToDefault.guardReached = true := by
    unfold State.guardReached
    rw [arb, keeps.clock]
    simp [ArbiterMode.guardEnd, State.newGuard, zero, after, reached]
  unfold State.passZeroGuard
  rw [if_pos ⟨by rw [keeps.policy]; exact zero, started, due⟩]
  unfold State.endGuard
  rw [arb]
  dsimp only
  rw [State.setMode_arb, arb]

theorem State.masksFor_arb (s : State) (old : Nat) : (s.masksFor old).arb = s.arb := by
  unfold State.masksFor
  split
  · rfl
  · rw [State.recompute_frame]

theorem State.masksFor_port (s : State) (old : Nat) : (s.masksFor old).port = s.port := by
  unfold State.masksFor
  split
  · rfl
  · rw [State.recompute_frame]

theorem State.masksFor_claims (s : State) (old : Nat) (c : Client) :
    (s.masksFor old).waitingClaims c = s.waitingClaims c := by
  unfold State.masksFor
  split
  · rfl
  · rw [State.recompute_frame]
    rfl

theorem maskGiven_bit (l : Link) (q : Prop) [Decidable q] :
    (if q then { l with notices := l.notices ||| 0x01 } else l).notices.getLsbD 0 =
      (l.notices.getLsbD 0 || decide q) := by
  split <;> simp [*]

/-- MASK goes to SR exactly where its mask's content changes, and to AR likewise (R135). -/
theorem State.masksFor_notices (s : State) (old : Nat) :
    ((s.masksFor old).links.get .sr).notices.getLsbD 0 = ((s.links.get .sr).notices.getLsbD 0 ||
      decide ((s.masksFor old).channel.srAvoided ≠ s.channel.srAvoided ∧ (s.sup.get .sr).state ≠ .detached)) ∧
    ((s.masksFor old).links.get .ar).notices.getLsbD 0 = ((s.links.get .ar).notices.getLsbD 0 ||
      decide ((s.masksFor old).channel.arAvoided ≠ s.channel.arAvoided ∧ (s.sup.get .ar).state ≠ .detached)) := by
  unfold State.masksFor
  split
  · simp
  · have channel : (s.recompute s.channel.note).channel = computeChannel s.channel.note s.policy.channelGuard := by
      rw [State.recompute_frame]
    rw [State.recompute_links, channel]
    exact ⟨maskGiven_bit _ _, maskGiven_bit _ _⟩

/-- With nobody else waiting the next holder's check changes nothing (R100). -/
theorem State.stateCheck_alone {n : Client} {e : AirTime} (hm : s.arb.mode = .settling n e)
    (hw : ∀ d, d ≠ n → s.waitingClaims d = []) : s.stateCheck = s := by
  have nobody : s.pick (fun c => c != n) = none := State.pick_eq_none fun d hd => hw d (by simpa using hd)
  rw [State.stateCheck_settling hm, State.displacementCheck_short hm fun d w hp => absurd (nobody.symm.trans hp) nofun,
    State.passZeroGuard_self]

/-- The settings written, the default position acted on and the masks recomputed, before the check (R104, R105, R134). -/
def State.settingsApplied (s : State) (g m a : Nat) (p : Client) (x : Nat) : State :=
  ((s.settingsWritten g m a p x).defaultMoved s.policy.defaultPos).masksFor s.policy.channelGuard

theorem State.settingsApplied_arb (s : State) (g m a : Nat) (p : Client) (x : Nat) :
    (s.settingsApplied g m a p x).arb = ((s.settingsWritten g m a p x).defaultMoved s.policy.defaultPos).arb :=
  State.masksFor_arb _ _

theorem State.setArbiter_applied (s : State) (g m a : Nat) (p : Client) (x : Nat) :
    s.setArbiter g m a p x = (s.settingsApplied g m a p x).stateCheck := State.setArbiter_eq _ _ _ _ _ _

/-- While the arbiter stays at rest no check arises. -/
theorem State.setArbiter_rest {b : Arbiter}
    (arb : ((s.settingsWritten g m a p x).defaultMoved s.policy.defaultPos).arb = b)
    (rest : b.mode = .free ∨ ∃ e, b.mode = .parking e) : (s.setArbiter g m a p x).arb = b := by
  have applied := (s.settingsApplied_arb g m a p x).trans arb
  rw [State.setArbiter_applied, State.stateCheck_rest _ (by rw [applied]; exact rest), applied]

/-- With position and channel guard to be kept, the settings alone are written. -/
theorem State.settingsApplied_kept (same : s.policy.channelGuard = x)
    (stays : (s.settingsWritten g m a p x).defaultMoved s.policy.defaultPos = s.settingsWritten g m a p x) :
    s.settingsApplied g m a p x = s.settingsWritten g m a p x := by
  unfold State.settingsApplied
  rw [stays]
  exact if_pos same

theorem State.not_atRest_of_settling {n : Client} {e : AirTime} (h : s.arb.mode = .settling n e) : ¬ s.atRest := by
  simp [State.atRest, h]

theorem State.not_atRest_of_held {h : Client} (hm : s.arb.mode = .held h) : ¬ s.atRest := by
  simp [State.atRest, hm]

/-- A SET ARBITER reports nothing to the port, and MASK alone to the clients (R135). -/
theorem State.setArbiter_reports (s : State) (g m a : Nat) (p : Client) (x : Nat) :
    (s.setArbiter g m a p x).port = s.port ∧
    (((s.setArbiter g m a p x).links.get .sr).notices.getLsbD 0 = ((s.links.get .sr).notices.getLsbD 0 ||
      decide ((s.setArbiter g m a p x).channel.srAvoided ≠ s.channel.srAvoided ∧
        (s.sup.get .sr).state ≠ .detached))) ∧
    (((s.setArbiter g m a p x).links.get .ar).notices.getLsbD 0 = ((s.links.get .ar).notices.getLsbD 0 ||
      decide ((s.setArbiter g m a p x).channel.arAvoided ≠ s.channel.arAvoided ∧
        (s.sup.get .ar).state ≠ .detached))) := by
  have moved := (s.settingsWritten g m a p x).defaultMoved_keeps s.policy.defaultPos
  have checked := (s.settingsApplied g m a p x).stateCheck_keeps
  have notice (c : Client) := arbiterClosed_noMask.stateCheck (s.settingsApplied g m a p x) c
  have before (c : Client) := arbiterClosed_noMask.defaultMoved (s.settingsWritten g m a p x) s.policy.defaultPos c
  obtain ⟨sr, ar⟩ := ((s.settingsWritten g m a p x).defaultMoved s.policy.defaultPos).masksFor_notices
    s.policy.channelGuard
  rw [before, moved.sup, moved.channel] at sr ar
  rw [State.setArbiter_applied, notice, notice]
  refine ⟨?_, ?_, ?_⟩
  · rw [checked.port]
    exact (State.masksFor_port _ _).trans moved.port
  · rw [checked.channel]
    exact sr
  · rw [checked.channel]
    exact ar

/-- In SETTLING and HELD with nobody else waiting the arbiter and the switch stay as they were (R103, R105). -/
theorem State.setArbiter_unopposed (busy : ¬ s.atRest)
    (check : ∀ t : State, t.arb = s.arb → (∀ c, t.waitingClaims c = s.waitingClaims c) → t.stateCheck = t) :
    (s.setArbiter g m a p x).arb = s.arb := by
  have stays : (s.settingsWritten g m a p x).defaultMoved s.policy.defaultPos = s.settingsWritten g m a p x :=
    State.defaultMoved_busy (s := s.settingsWritten g m a p x) busy
  have arb : (s.settingsApplied g m a p x).arb = s.arb := by
    rw [State.settingsApplied_arb, stays]
    rfl
  have claims (c : Client) : (s.settingsApplied g m a p x).waitingClaims c = s.waitingClaims c := by
    unfold State.settingsApplied
    rw [State.masksFor_claims, stays]
    rfl
  rw [State.setArbiter_applied, check _ arb claims, arb]

theorem setArbiter_clamped (g m a b x : Byte) :
    clampedIf (outside 0 63 g.toNat || outside 1 63 m.toNat || outside 1 50 a.toNat || outside 0 2 b.toNat ||
        outside 0 15 x.toNat) =
      if 63 < g.toNat ∨ m.toNat < 1 ∨ 63 < m.toNat ∨ a.toNat < 1 ∨ 50 < a.toNat ∨ 2 < b.toNat ∨
        15 < x.toNat then .clamped else .ok := by
  simp only [clampedIf, Bool.or_eq_true, outside_iff, Nat.not_lt_zero, false_or, or_assoc]

theorem saturate_zero (hi x : Nat) : saturate 0 hi x = min hi x := Nat.zero_max _

theorem positionOf_eq {b : Byte} (h : clientOfIndex (min 2 b.toNat) = some p) : positionOf b = p := by
  rw [positionOf, saturate_zero, h]
  rfl

end SetArbiter

/-- Settles O49. -/
theorem setArbiterStoresTheSettings : Obligations.SetArbiterStoresTheSettings := by
  intro s g m a b x p high position
  have row := exec_setArbiter (s := s) (g := g) (m := m) (a := a) (p := b) (x := x) high
  rw [positionOf_eq position, setArbiter_clamped, saturate_zero, saturate_zero] at row
  change exec _ s = .next ((s.setArbiter _ (max 1 (min 63 m.toNat)) (max 1 (min 50 a.toNat) * 100) p _).finishWrite _ [])
    at row
  generalize (if 63 < g.toNat ∨ m.toNat < 1 ∨ 63 < m.toNat ∨ a.toNat < 1 ∨ 50 < a.toNat ∨ 2 < b.toNat ∨
    15 < x.toNat then PortResult.clamped else .ok) = r at row ⊢
  have zero : g = 0 ↔ min 63 g.toNat = 0 := by
    have value : g = 0 ↔ g.toNat = 0 := ⟨fun h => by rw [h]; rfl, fun h => BitVec.eq_of_toNat_eq h⟩
    rw [value]
    omega
  have positive : g ≠ 0 ↔ min 63 g.toNat ≠ 0 := not_congr zero
  generalize min 63 g.toNat = gg at row zero positive ⊢
  generalize max 1 (min 63 m.toNat) = mm at row ⊢
  generalize max 1 (min 50 a.toNat) * 100 = aa at row ⊢
  generalize min 15 x.toNat = xx at row ⊢
  obtain ⟨port, sr, ar⟩ := s.setArbiter_reports gg mm aa p xx
  refine ⟨_, row, State.setArbiter_policy _ _ _ _ _ _ _, ?port, State.setArbiter_channel _ _ _ _ _ _,
    fun rest stays => ?kept, fun rest changed away time => ?parks, fun rest changed away time => ?frees,
    fun n e settling alone => ?settling, fun h held alone => ?held, sr, ar, fun busy same => ?busy,
    fun rest home same => ?quiet⟩
  case port => rw [State.finishWrite_eq, port]
  case kept =>
    refine State.setArbiter_rest ?_ rest
    rw [State.defaultMoved_kept (s := s.settingsWritten gg mm aa p xx) (stays.imp_right Eq.symm)]
    rfl
  case parks =>
    refine State.setArbiter_rest (b := ⟨.parking (s.clock + BitVec.ofNat 32 gg), p⟩) ?_ (.inr ⟨_, rfl⟩)
    rw [State.defaultMoved_rest (s := s.settingsWritten gg mm aa p xx) rest changed away.symm,
      State.passZeroGuard_of_ne _ _ (by rw [State.moveToDefault_keeps _ |>.policy]; exact positive.mp time)]
    exact State.moveToDefault_arb _
  case frees =>
    refine State.setArbiter_rest (b := ⟨.free, p⟩) ?_ (.inl rfl)
    rw [State.defaultMoved_rest (s := s.settingsWritten gg mm aa p xx) rest changed away.symm]
    exact State.moveToDefault_zero (s := s.settingsWritten gg mm aa p xx) (zero.mp time) away.symm
  case settling =>
    exact State.setArbiter_unopposed (State.not_atRest_of_settling settling) fun t arb claims =>
      State.stateCheck_alone (n := n) (e := e) (by rw [arb, settling]) fun d hd => (claims d).trans (alone d hd)
  case held =>
    exact State.setArbiter_unopposed (State.not_atRest_of_held held) fun t arb claims =>
      State.stateCheck_unopposed (h := h) (by rw [arb, held]) fun d hd => (claims d).trans (alone d hd)
  case busy =>
    rw [State.setArbiter_policy, State.setArbiter_applied, State.settingsApplied_kept same
      (State.defaultMoved_busy (s := s.settingsWritten gg mm aa p xx) busy), State.finishWrite_eq]
    rfl
  case quiet =>
    rw [State.setArbiter_policy, State.setArbiter_applied, State.settingsApplied_kept same
      (State.defaultMoved_kept (s := s.settingsWritten gg mm aa p xx) (.inl home)),
      State.stateCheck_rest (s.settingsWritten gg mm aa p xx) rest, State.finishWrite_eq]
    rfl

end Sys2Proof.Machine
end

section
namespace Sys2Proof.Machine

/-! ## SET CLASS -/

section SetClass

variable {s t : State} {c : Client} {k : FlowClass} {f : Flow} {u : Bool} {a d l : AirTime}

/-- Flows of the same profiles have the same hold limits (R118). -/
theorem SameFlows.holdLimitOf (h : SameFlows s t) (policy : t.policy = s.policy) (n : Nat) :
    t.holdLimitOf n = s.holdLimitOf n := by
  have lookup (x : State) : (x.flowAt n).map effectiveClass =
      ((x.flows.map Flow.profile).find? (·.1 == n)).map fun p => p.2.2.2.2.getD p.2.2.2.1 := by
    rw [List.find?_map, Option.map_map]
    rfl
  have row (x : State) : x.rowOfSlot n = ((x.flowAt n).map effectiveClass).map x.policy.classes.row :=
    by rw [Option.map_map]; rfl
  have same : t.rowOfSlot n = s.rowOfSlot n := by
    unfold SameFlows at h
    rw [row, row, lookup, lookup, policy, h]
  rw [State.holdLimitOf, same]
  rfl

/-- The client's live claim, where it holds, has begun to hold at this moment under the limit in force (R118). -/
def State.FreshHold (s : State) (c : Client) : Prop :=
  ∀ u a d n, (s.live.get c).state = .holding u a d → (s.live.get c).binding = some n →
    a = s.clock ∧ d = after s.clock (s.holdLimitOf n)

theorem State.freshHold_of_none (h : s.liveHolding c = none) : s.FreshHold c := by
  intro u a d n hl hb
  rw [State.liveHolding, hl, hb] at h
  cases h

theorem State.freshHold_congr (live : t.live.get c = s.live.get c) (clock : t.clock = s.clock)
    (limit : ∀ n, t.holdLimitOf n = s.holdLimitOf n) (h : s.FreshHold c) : t.FreshHold c := by
  unfold State.FreshHold
  rw [live, clock]
  intro u a d n hl hb
  rw [limit]
  exact h u a d n hl hb

/-- Clock, policy and the flows' profiles have stayed, and every holding that is new has begun at this moment. -/
structure HoldsFresh (s t : State) : Prop where
  clock : t.clock = s.clock
  policy : t.policy = s.policy
  flows : SameFlows s t
  fresh : ∀ c, s.FreshHold c → t.FreshHold c

theorem HoldsFresh.of_live (clock : t.clock = s.clock) (policy : t.policy = s.policy) (flows : SameFlows s t)
    (live : t.live = s.live) : HoldsFresh s t :=
  ⟨clock, policy, flows, fun _ => State.freshHold_congr (by rw [live]) clock (flows.holdLimitOf policy)⟩

/-- Whatever the arbiter grants begins to hold at this moment, with the hold deadline one limit on (R118). -/
theorem arbiterClosed_holdsFresh : ArbiterClosed HoldsFresh where
  refl s := .of_live rfl rfl rfl rfl
  trans h k := ⟨k.clock.trans h.clock, k.policy.trans h.policy, Eq.trans k.flows h.flows,
    fun c hc => k.fresh c (h.fresh c hc)⟩
  setMode s m := .of_live (by simp) (by simp) (arbiterClosed_sameFlows.setMode s m) (by simp)
  setPosition _ _ := .of_live rfl rfl rfl rfl
  turnHolding s c := by
    have flows := arbiterClosed_sameFlows.turnHolding s c
    have limit := flows.holdLimitOf rfl
    refine ⟨rfl, rfl, flows, fun d hd => ?_⟩
    by_cases hdc : d = c
    · subst hdc
      have live : (s.turnHolding d).live.get d = s.grantLive (s.live.get d) := PerClient.get_set_same _ _ _
      unfold State.grantLive at live
      split at live
      · rename_i bound
        intro u a d n hl hb
        rw [live] at hl hb
        cases hl
        cases hb.symm.trans bound
        exact ⟨rfl, by rw [limit]; rfl⟩
      · exact State.freshHold_congr live rfl limit hd
    · exact State.freshHold_congr (PerClient.get_set_other _ _ _ _ hdc) rfl limit hd
  cutHoldings s c := by
    have flows := arbiterClosed_sameFlows.cutHoldings s c
    have policy : (s.cutHoldings c).policy = s.policy := by rw [s.cutHoldings_eq c]
    have clock : (s.cutHoldings c).clock = s.clock := by rw [s.cutHoldings_eq c]
    have live : (s.cutHoldings c).live = s.live.set c (s.cutLive (s.live.get c)) := by rw [s.cutHoldings_eq c]
    refine ⟨clock, policy, flows, fun d hd => ?_⟩
    by_cases hdc : d = c
    · subst hdc
      intro u a d n hl
      rw [live, PerClient.get_set_same, State.cutLive] at hl
      split at hl
      · cases hl
      · rename_i none
        exact absurd hl (none _ _ _)
    · exact State.freshHold_congr (by rw [live, PerClient.get_set_other _ _ _ _ hdc]) clock (flows.holdLimitOf policy) hd
  countPreemption _ := .of_live rfl rfl rfl rfl

/-! ### The hold deadlines of a class -/

/-- The hold limit of the class is one that a deadline can carry (R86). -/
def State.LimitSet (s : State) (k : FlowClass) : Prop :=
  0 < (s.policy.classes.row k).holdLimit ∧ (s.policy.classes.row k).holdLimit < 2 ^ 31

theorem not_reached_after {n : Nat} (now : AirTime) (h : 0 < n) (hn : n < 2 ^ 31) : reached now (after now n) = false := by
  refine reached_of_later ((later_iff _ _).mpr ?_)
  have place : (after now n - now).toNat = n := by
    unfold after
    bv_omega
  omega

theorem State.refreshHold_quiet (h : s.liveHolding c = none) : s.refreshHold c = s := by
  unfold State.refreshHold
  split
  · rename_i hl hb
    rw [State.liveHolding, hl, hb] at h
    cases h
  · rfl

/-- A holding begun at this moment has its deadline already (R118, R119). -/
theorem State.refreshHold_fresh (h : s.FreshHold c)
    (early : ∀ n, (s.live.get c).binding = some n → reached s.clock (after s.clock (s.holdLimitOf n)) = false) :
    s.refreshHold c = s := by
  unfold State.refreshHold
  split
  · rename_i u a d n hl hb
    obtain ⟨rfl, rfl⟩ := h u a d n hl hb
    rw [if_neg (by rw [early n hb]; nofun)]
    have same : ({ s.live.get c with state := .holding u s.clock (after s.clock (s.holdLimitOf n)) } : LiveClaim) =
        s.live.get c := by rw [← hl]
    rw [State.onLive, same, PerClient.set_get]
  · rfl

/-- Where no live claim bound to a flow of the class holds, the class has no deadline to refresh. -/
theorem State.refreshHoldOfClass_kept (h : ∀ f, (s.live.get c).binding = some f.slot → s.flowAt f.slot = some f →
    effectiveClass f = k → s.refreshHold c = s) : s.refreshHoldOfClass k c = s := by
  unfold State.refreshHoldOfClass
  split
  · rfl
  · rename_i slot bound
    split
    · rfl
    · rename_i f hf
      obtain ⟨_, rfl⟩ := State.flowAt_some hf
      split
      · rename_i same
        exact h f bound hf same
      · rfl

theorem State.holdLimitOf_flow (hf : s.flowAt f.slot = some f) :
    s.holdLimitOf f.slot = (s.policy.classes.row (effectiveClass f)).holdLimit := by
  rw [State.holdLimitOf, State.rowOfSlot, hf]
  rfl

theorem State.refreshHoldOfClass_fresh (limit : s.LimitSet k) (h : s.FreshHold c) : s.refreshHoldOfClass k c = s := by
  refine State.refreshHoldOfClass_kept fun f bound hf same => State.refreshHold_fresh h fun n hn => ?_
  cases bound.symm.trans hn
  rw [State.holdLimitOf_flow hf, same]
  exact not_reached_after _ limit.1 limit.2

theorem State.refreshHolds_kept (h : ∀ c, s.refreshHoldOfClass k c = s) : s.refreshHolds k = s := by
  change ((s.refreshHoldOfClass k .nr).refreshHoldOfClass k .sr).refreshHoldOfClass k .ar = s
  rw [h, h, h]

/-- With every other holding new, a refresh of the class touches one client's claim alone. -/
theorem State.refreshHolds_one (limit : s.LimitSet k) (before : ∀ e, e ≠ c → s.FreshHold e)
    (after : ∀ e, e ≠ c → (s.refreshHoldOfClass k c).FreshHold e) : s.refreshHolds k = s.refreshHoldOfClass k c := by
  have policy : (s.refreshHoldOfClass k c).policy = s.policy := KeepsAllBut.policy (keeps_refreshHoldOfClass k c)
  have kept (e : Client) (he : e ≠ c) : s.refreshHoldOfClass k e = s :=
    State.refreshHoldOfClass_fresh limit (before e he)
  have left (e : Client) (he : e ≠ c) : (s.refreshHoldOfClass k c).refreshHoldOfClass k e = s.refreshHoldOfClass k c :=
    State.refreshHoldOfClass_fresh (by unfold State.LimitSet; rw [policy]; exact limit) (after e he)
  change ((s.refreshHoldOfClass k .nr).refreshHoldOfClass k .sr).refreshHoldOfClass k .ar = _
  cases c
  · rw [left .sr nofun, left .ar nofun]
  · rw [kept .nr nofun, left .ar nofun]
  · rw [kept .nr nofun, kept .sr nofun]

theorem State.refreshHoldOfClass_holding (bound : (s.live.get c).binding = some f.slot)
    (hf : s.flowAt f.slot = some f) (hl : (s.live.get c).state = .holding u a d)
    (hlim : l = after a (s.policy.classes.row (effectiveClass f)).holdLimit) :
    s.refreshHoldOfClass (effectiveClass f) c = if reached s.clock l then
      (s.withHold c u a l).claimsLeft ((s.withHold c u a l).overstayed c f.slot) c else s.withHold c u a l := by
  subst hlim
  rw [← State.expireHold_eq _ c f.slot (by simp [State.withHold, bound]), State.refreshHoldOfClass, bound]
  dsimp only
  rw [hf]
  dsimp only
  rw [if_pos rfl, State.refreshHold, hl, bound, ← State.holdLimitOf_flow hf]
  rfl

/-- The only live claim that holds has its hold deadline refreshed, and expires where it has been reached (R119, R120). -/
theorem State.refreshHolds_holding (limit : s.LimitSet (effectiveClass f))
    (bound : (s.live.get c).binding = some f.slot) (hf : s.flowAt f.slot = some f)
    (hl : (s.live.get c).state = .holding u a d) (others : ∀ e, e ≠ c → s.liveHolding e = none)
    (hlim : l = after a (s.policy.classes.row (effectiveClass f)).holdLimit) :
    s.refreshHolds (effectiveClass f) = if reached s.clock l then
      (s.withHold c u a l).claimsLeft ((s.withHold c u a l).overstayed c f.slot) c else s.withHold c u a l := by
  have only := State.refreshHoldOfClass_holding bound hf hl hlim
  have fresh (e : Client) (he : e ≠ c) : s.FreshHold e := State.freshHold_of_none (others e he)
  have withHold (e : Client) (he : e ≠ c) : (s.withHold c u a l).live.get e = s.live.get e :=
    PerClient.get_set_other _ _ _ _ he
  rw [State.refreshHolds_one limit fresh fun e he => ?_, only]
  rw [only]
  split
  · have live : ((s.withHold c u a l).overstayed c f.slot).live.get e = s.live.get e :=
      (PerClient.get_set_other _ _ _ _ he).trans (withHold e he)
    refine (arbiterClosed_holdsFresh.claimsLeft _ _ c).fresh e (State.freshHold_of_none ?_)
    rw [State.liveHolding, live]
    exact others e he
  · exact State.freshHold_congr (withHold e he) rfl (fun _ => rfl) (fresh e he)

/-! ### The row -/

theorem setClass_clamped (base step : Byte) (h : BitVec 16) :
    clampedIf (outside 0 15 base.toNat || outside 0 3 step.toNat || outside 100 65000 h.toNat) =
      if 15 < base.toNat ∨ 3 < step.toNat ∨ h.toNat < 100 ∨ 65000 < h.toNat then .clamped else .ok := by
  simp only [clampedIf, Bool.or_eq_true, outside_iff, Nat.not_lt_zero, false_or, or_assoc]

theorem classRowOf_eq (base step flags : Byte) (h : BitVec 16) : classRowOf base step flags h =
    { base := min 15 base.toNat, step := min 3 step.toNat, urgent := flags.getLsbD 0
      preemptible := flags.getLsbD 1, holdLimit := max 100 (min 65000 h.toNat) } := by
  rw [classRowOf, saturate_zero, saturate_zero]
  rfl

theorem State.classWritten_row (s : State) (k : FlowClass) (r : ClassRow) :
    (s.classWritten k r).policy.classes.row k = r := ClassTable.row_setRow_same _ _ _

theorem State.classWritten_limit (s : State) (k : FlowClass) (base step flags : Byte) (h : BitVec 16) :
    (s.classWritten k (classRowOf base step flags h)).LimitSet k := by
  have range := saturate_mem 100 65000 h.toNat (by decide)
  rw [State.LimitSet, State.classWritten_row]
  change 0 < saturate 100 65000 h.toNat ∧ saturate 100 65000 h.toNat < 2 ^ 31
  omega

theorem classOfCode_above : ∀ {n : Nat}, 5 < n → classOfCode n = none
  | _ + 6, _ => rfl

theorem exec_setClass_range {b base step flags : Byte} {h : BitVec 16} (high : s.resetn = true) (range : 5 < b.toNat) :
    exec (.setClass b base step flags h) s = .next { s with port := s.port.refused .range } := by
  simp only [exec, execSetClass, s.whenRunning_high _ high, classOfCode_above range]
  rfl

theorem State.withHold_waiting {e : Client} (he : e ≠ c) :
    (s.withHold c u a l).waitingClaims e = s.waitingClaims e := by
  have live : (s.withHold c u a l).live.get e = s.live.get e := PerClient.get_set_other _ _ _ _ he
  rw [State.waitingClaims, State.liveWaiting, live]
  rfl

/-- With nobody else waiting the holder's new hold deadline opens nothing to the check (R103). -/
theorem State.withHold_unopposed (held : s.arb.mode = .held c) (alone : ∀ e, e ≠ c → s.waitingClaims e = []) :
    (s.withHold c u a l).stateCheck = s.withHold c u a l :=
  State.stateCheck_unopposed (s := s.withHold c u a l) held fun e he => (State.withHold_waiting he).trans (alone e he)

/-- With no live claim of the class holding, the row is written and the arbiter makes its check (R103, R106). -/
theorem State.refreshHolds_quiet (quiet : ∀ c g, (s.live.get c).binding = some g.slot → s.flowAt g.slot = some g →
    effectiveClass g = k → s.liveHolding c = none) : s.refreshHolds k = s :=
  State.refreshHolds_kept fun c => State.refreshHoldOfClass_kept fun g bound hg same =>
    State.refreshHold_quiet (quiet c g bound hg same)

/-- A SET CLASS of the class of the only live claim that holds, `r` the state with row and deadline written (R119, R120). -/
theorem exec_setClass_holding {b base step flags : Byte} {h : BitVec 16} {r : State} (high : s.resetn = true)
    (code : classOfCode b.toNat = some (effectiveClass f)) (bound : (s.live.get c).binding = some f.slot)
    (hf : s.flowAt f.slot = some f) (hl : (s.live.get c).state = .holding u a d)
    (others : ∀ e, e ≠ c → s.liveHolding e = none)
    (hr : r = (s.classWritten (effectiveClass f) (classRowOf base step flags h)).withHold c u a
      (a + BitVec.ofNat 32 (max 100 (min 65000 h.toNat)))) :
    exec (.setClass b base step flags h) s = .next
      ((if reached s.clock (a + BitVec.ofNat 32 (max 100 (min 65000 h.toNat))) then
          r.claimsLeft (r.overstayed c f.slot) c else r).stateCheck.finishWrite
        (clampedIf (outside 0 15 base.toNat || outside 0 3 step.toNat || outside 100 65000 h.toNat)) []) := by
  rw [exec_setClass high code, State.refreshHolds_holding (s := s.classWritten _ _)
    (s.classWritten_limit _ base step flags h) bound hf hl others rfl, State.classWritten_row, classRowOf_eq, hr,
    classRowOf_eq]
  rfl

/-- The expiry that a SET CLASS takes in its act stands after the arbiter's acts (R120). -/
theorem State.expiredInAct_stands (r : State) (c : Client) (n : Nat) :
    r.OverstayStands (r.claimsLeft (r.overstayed c n) c).stateCheck c n :=
  (r.overstayed_stands c n).kept (arbiterClosed_overstaysKept.trans
    (arbiterClosed_overstaysKept.claimsLeft r (r.overstayed c n) c) (arbiterClosed_overstaysKept.stateCheck _))

end SetClass

/-- Settles O46. -/
theorem setClassReplacesOneRow : Obligations.SetClassReplacesOneRow := by
  refine ⟨fun s b base step flags h k high code => ?row,
    fun s b base step flags h c f u a d high code bound hf hl held others early => ?follows,
    fun s b base step flags h c f u a d high code bound hf hl held others due => ?expires,
    fun s b base step flags h k high code quiet => ?quiet,
    fun s b base step flags h c f u a d l high code bound hf hl others hlim => ?refreshed,
    fun s b base step flags h high range => exec_setClass_range high range⟩
  case row =>
    have policy := s.setClass_policy k (classRowOf base step flags h)
    refine ⟨_, exec_setClass high code, ?_, ?_, fun j hj => ?_, ?_, ?_, ?_, fun rest none => ?_⟩
    · rw [policy]
      rfl
    · rw [policy, State.classWritten_row, classRowOf_eq]
    · rw [policy]
      exact ClassTable.row_setRow_other _ _ hj
    · rw [State.finishWrite_eq]
      exact setClass_clamped base step h
    · rw [State.finishWrite_eq]
      rfl
    · rw [State.finishWrite_eq]
      simp [Port.wrote]
    · rw [policy, State.refreshHolds_quiet (s := s.classWritten k _) fun c _ _ _ _ => none c,
        State.stateCheck_rest (s.classWritten k _) rest, State.finishWrite_eq]
      rfl
  case follows =>
    have row := exec_setClass_holding (base := base) (step := step) (flags := flags) (h := h) high code
      bound hf hl (fun e he => (others e he).2) rfl
    rw [early, if_neg nofun, State.withHold_unopposed (s := s.classWritten _ _) held fun e he =>
      (others e he).1, State.finishWrite_eq] at row
    exact ⟨_, row, rfl, rfl⟩
  case expires =>
    generalize hr : (s.classWritten (effectiveClass f) (classRowOf base step flags h)).withHold c u a
      (a + BitVec.ofNat 32 (max 100 (min 65000 h.toNat))) = r
    have row := exec_setClass_holding high code bound hf hl others hr.symm
    have stands := r.expiredInAct_stands c f.slot
    have answered := State.claimsLeft_keeps r (r.overstayed c f.slot) c
    have port := (State.stateCheck_keeps _).port.trans answered.port
    have claim : { r.live.get c with state := .spent } = { s.live.get c with state := .spent } := by
      rw [← hr, State.withHold, PerClient.get_set_same]
      rfl
    obtain ⟨mem, _⟩ := State.flowAt_some hf
    subst hr
    obtain ⟨g, hg, slot, _, _, count⟩ := stands.flows f mem rfl
    rw [due, if_pos rfl, State.finishWrite_eq, port] at row
    exact ⟨_, row, stands.claim.trans claim, stands.counted, rfl, stands.notice, g, hg, slot, count⟩
  case quiet =>
    refine ⟨_, exec_setClass high code, ?_⟩
    rw [State.setClass_policy, State.refreshHolds_quiet (s := s.classWritten k _) quiet, State.finishWrite_eq]
    rfl
  case refreshed =>
    subst hlim
    generalize hr : (s.classWritten (effectiveClass f) (classRowOf base step flags h)).withHold c u a
      (a + BitVec.ofNat 32 (max 100 (min 65000 h.toNat))) = r
    have row := exec_setClass_holding high code bound hf hl others hr.symm
    have written (p : Policy) (hp : p = r.policy) : r = { s with
        policy := p
        live := s.live.set c { s.live.get c with
          state := .holding u a (a + BitVec.ofNat 32 (max 100 (min 65000 h.toNat))) } } := by
      rw [hp, ← hr]
      rfl
    cases due : reached s.clock (a + BitVec.ofNat 32 (max 100 (min 65000 h.toNat)))
    · rw [due, if_neg nofun, State.finishWrite_eq] at row
      exact ⟨r, _, row, written _ r.stateCheck_keeps.policy, fun _ => rfl, nofun⟩
    · rw [due, if_pos rfl, State.finishWrite_eq] at row
      have answered := State.claimsLeft_keeps r (r.overstayed c f.slot) c
      exact ⟨r, _, row, written _ ((State.stateCheck_keeps _).policy.trans
        (answered.policy.trans (r.giveNotice_policy c .overstay))), nofun, fun _ => rfl⟩

end Sys2Proof.Machine
end

section
namespace Sys2Proof.Machine

/-! ## The restoration of avoided channels -/

section Restoration

variable {centre : Nat → Nat} {fc k count : Nat} {ks : List Nat} {n : ChannelNote} {g : Nat}

/-- R133 restores channel k before channel j: k lies farther from Fc, or at the same distance and below j. -/
def RestoredBefore (centre : Nat → Nat) (fc k j : Nat) : Prop :=
  distance (centre j) fc < distance (centre k) fc ∨ distance (centre j) fc = distance (centre k) fc ∧ k < j

theorem RestoredBefore.trans {i j : Nat} (h : RestoredBefore centre fc i j) (h' : RestoredBefore centre fc j k) :
    RestoredBefore centre fc i k := by
  unfold RestoredBefore at *
  omega

theorem farthest_eq_none (h : farthest centre fc ks = none) : ks = [] := by
  cases ks with
  | nil => rfl
  | cons x xs =>
    rw [farthest] at h
    split at h
    · cases h
    · split at h <;> cases h

theorem farthest_mem (h : farthest centre fc ks = some k) : k ∈ ks := by
  induction ks generalizing k with
  | nil => cases h
  | cons x xs ih =>
    rw [farthest] at h
    split at h
    next =>
      cases h
      exact List.mem_cons_self
    next m hm =>
      split at h <;> cases h
      · exact List.mem_cons_self
      · exact List.mem_cons_of_mem x (ih hm)

/-- The channel picked from a list in rising order of frequency comes first in R133's order. -/
theorem farthest_restoredBefore (rising : ks.Pairwise (· < ·)) (h : farthest centre fc ks = some k) :
    ∀ j ∈ ks, j ≠ k → RestoredBefore centre fc k j := by
  induction ks generalizing k with
  | nil => cases h
  | cons x xs ih =>
    obtain ⟨below, rising⟩ := List.pairwise_cons.mp rising
    rw [farthest] at h
    split at h
    next hnone =>
      cases h
      simp [farthest_eq_none hnone]
    next m hm =>
      have first := ih rising hm
      split at h
      next hle =>
        cases h
        have ahead : RestoredBefore centre fc x m := by
          have := below m (farthest_mem hm)
          unfold RestoredBefore
          omega
        intro j hj ne
        have tail : j ∈ xs := (List.mem_cons.mp hj).resolve_left ne
        by_cases same : j = m
        · exact same ▸ ahead
        · exact ahead.trans (first j tail same)
      next hlt =>
        cases h
        intro j hj ne
        rcases List.mem_cons.mp hj with rfl | tail
        · exact .inl (Nat.lt_of_not_le hlt)
        · exact first j tail ne

theorem restore_sublist (centre : Nat → Nat) (fc count : Nat) (ks : List Nat) :
    (restore centre fc count ks).Sublist ks := by
  induction count generalizing ks with
  | zero => exact .refl ks
  | succ count ih =>
    rw [restore]
    split
    · exact .refl ks
    · exact (ih _).trans List.erase_sublist

theorem restore_length (centre : Nat → Nat) (fc count : Nat) (ks : List Nat) :
    (restore centre fc count ks).length = ks.length - count := by
  induction count generalizing ks with
  | zero => rfl
  | succ count ih =>
    rw [restore]
    split
    next hnone => simp [farthest_eq_none hnone]
    next m hm =>
      rw [ih, List.length_erase_of_mem (farthest_mem hm)]
      omega

/-- Every channel restored comes before every channel left avoided (R133). -/
theorem restore_restoredBefore (rising : ks.Pairwise (· < ·)) (hk : k ∈ ks)
    (restored : k ∉ restore centre fc count ks) :
    ∀ j ∈ restore centre fc count ks, RestoredBefore centre fc k j := by
  induction count generalizing ks with
  | zero => exact absurd hk restored
  | succ count ih =>
    rw [restore] at restored ⊢
    split at restored
    next => exact absurd hk restored
    next m hm =>
      have distinct : ks.Nodup := rising.imp Nat.ne_of_lt
      by_cases picked : k = m
      · subst picked
        intro j hj
        obtain ⟨ne, mem⟩ := distinct.mem_erase_iff.mp ((restore_sublist ..).subset hj)
        exact farthest_restoredBefore rising hm j mem ne
      · exact ih (rising.sublist List.erase_sublist) (distinct.mem_erase_iff.mpr ⟨picked, hk⟩) restored

/-! ### The number of channels restored -/

theorem restore_usable {total minimum : Nat} (room : minimum ≤ total) (fits : ks.length ≤ total) :
    total - (restore centre fc (shortfall total minimum ks) ks).length = max minimum (total - ks.length) := by
  rw [restore_length, shortfall]
  omega

theorem shortfall_eq_restored {total minimum : Nat} (room : minimum ≤ total) (fits : ks.length ≤ total) :
    shortfall total minimum ks = ks.length - (restore centre fc (shortfall total minimum ks) ks).length := by
  rw [restore_length, shortfall]
  omega

/-! ### The channels marked -/

theorem bandLow_le_iff {f : Nat} : bandLow n g ≤ f ↔ n.centre ≤ f + widthMHz n.width / 2 + g := by
  unfold bandLow
  omega

theorem mem_srMarked_iff : k ∈ srMarked n g ↔ k < 79 ∧
    n.centre ≤ 2402 + k + widthMHz n.width / 2 + g ∧ 2402 + k ≤ n.centre + widthMHz n.width / 2 + g := by
  simp only [srMarked, List.mem_filter, List.mem_range, Bool.and_eq_true, decide_eq_true_eq, bandLow_le_iff]
  exact .rfl

theorem mem_arMarked_iff : k ∈ arMarked n g ↔ k < 16 ∧
    n.centre ≤ 2405 + 5 * k + 1 + widthMHz n.width / 2 + g ∧
    2405 + 5 * k - 1 ≤ n.centre + widthMHz n.width / 2 + g := by
  simp only [arMarked, List.mem_filter, List.mem_range, Bool.and_eq_true, decide_eq_true_eq, bandLow_le_iff]
  unfold bandHigh arCentre Config.arChannels
  omega

theorem srMarked_rising (n : ChannelNote) (g : Nat) : (srMarked n g).Pairwise (· < ·) :=
  List.pairwise_lt_range.filter _

theorem arMarked_rising (n : ChannelNote) (g : Nat) : (arMarked n g).Pairwise (· < ·) :=
  List.pairwise_lt_range.filter _

theorem srMarked_length_le (n : ChannelNote) (g : Nat) : (srMarked n g).length ≤ Config.srChannels :=
  (List.length_filter_le ..).trans_eq List.length_range

theorem arMarked_length_le (n : ChannelNote) (g : Nat) : (arMarked n g).length ≤ Config.arChannels :=
  (List.length_filter_le ..).trans_eq List.length_range

end Restoration

/-- Settles O31: the restoration picks the first channel of R133's order each time, so it takes the marked channels in
that order, and it takes as many as the minimum lacks. -/
theorem masksLeaveTheMinimumUsable : Obligations.MasksLeaveTheMinimumUsable := by
  intro n g _ _ _
  have srRoom : Config.srMinimum ≤ Config.srChannels := by decide
  have arRoom : Config.arMinimum ≤ Config.arChannels := by decide
  exact ⟨fun _ => mem_srMarked_iff, fun _ => mem_arMarked_iff,
    fun _ h => (restore_sublist ..).subset h, fun _ h => (restore_sublist ..).subset h,
    restore_usable srRoom (srMarked_length_le n g), restore_usable arRoom (arMarked_length_le n g),
    fun _ => restore_restoredBefore (srMarked_rising n g), fun _ => restore_restoredBefore (arMarked_rising n g),
    shortfall_eq_restored srRoom (srMarked_length_le n g), shortfall_eq_restored arRoom (arMarked_length_le n g)⟩

end Sys2Proof.Machine
end

section
/-!
# The links' family: what a SEL edge does to its own link, the other links, and the formats of frames and writes

Sections: the SEL edges and the frames that touch one link, the independence of the links, the formats of the reply
frame and the status word, then decode and encode.
-/

namespace Sys2Proof.Machine

/-! ## SEL edges -/

/-- Settles O6. -/
theorem selEdgesThatEndNoFrame : Obligations.SelEdgesThatEndNoFrame := by
  refine ⟨fun s c high ready carried => ?fall, fun s c d w a g high inFrame => ?pause,
    fun s c high aborted => ?abortEnd, fun s c high awaiting => ?resetEnd⟩
  case fall =>
    have owed : ¬ ((s.links.get c).announce = false ∧ (s.links.get c).reply = .empty) := fun ⟨quiet, empty⟩ =>
      carried.elim (by simp [quiet]) fun filled => filled empty
    simp only [exec, execReplyCapture, s.whenRunning_high _ high, ready, if_neg owed]
    rfl
  case pause =>
    simp only [exec, execPause, s.whenRunning_high _ high, inFrame]
    rfl
  case abortEnd =>
    simp only [exec, execAbortedFrameEnd, s.whenRunning_high _ high, aborted]
    rfl
  case resetEnd =>
    simp only [exec, execSelRiseAfterReset, s.whenRunning_high _ high, awaiting]
    rfl

/-! ## Damaged frames -/

/-- A rejection after an update of the link, as one update of the state (R141). -/
theorem State.onLink_rejectFrame (s : State) (c : Client) (f : Link → Link) :
    (s.onLink c f).rejectFrame c = { s with
      links := s.links.set c { f (s.links.get c) with
        reply := .frameReply, errors := min 255 ((f (s.links.get c)).errors + 1) }
      port := { s.port with flags := s.port.flags ||| 0x010 } } := by
  simp only [State.rejectFrame, State.onLink, PerClient.get_set_same, PerClient.set_set]
  rfl

theorem Link.flagAfterFrame_inFrame {l : Link} {d : AirTime} {w : FrameWord} {a g : Bool}
    (h : l.receive = .inFrame d w a g) : l.flagAfterFrame = (l.announce && (!a || g)) := by
  rw [Link.flagAfterFrame, h]

theorem State.selectDue_inFrame {s : State} {c : Client} {d : AirTime} {w : FrameWord} {a g : Bool}
    (h : (s.links.get c).receive = .inFrame d w a g) : s.selectDue c = reached s.clock d := by
  rw [State.selectDue, h]

/-- Settles O7. -/
theorem damagedFramesAreCounted : Obligations.DamagedFramesAreCounted := by
  refine ⟨fun s c cause ⟨high, ends⟩ => ?rejected, fun s c d w a g high inFrame due => ?aborted,
    fun s c d w a g inFrame early => ?early, fun l d w a g => Link.flagAfterFrame_inFrame⟩
  case rejected =>
    refine (s.whenRunning_high _ high).trans ?_
    rw [if_pos ends, State.onLink_rejectFrame]
    rfl
  case aborted =>
    refine (s.whenRunning_high _ high).trans ?_
    rw [if_pos ((State.selectDue_inFrame inFrame).trans due), State.onLink_rejectFrame,
      ← Link.flagAfterFrame_inFrame inFrame]
    rfl
  case early =>
    have idle : s.selectDue c = false := (State.selectDue_inFrame inFrame).trans early
    simp [exec, execSelectTimeout, State.whenRunning, idle]

/-! ## Frames that touch their own link alone -/

/-- What a taken frame does to its own link, as one update of the state. -/
theorem State.frameTaken_onLink (s : State) (c : Client) (f : Link → Link) :
    (s.frameTaken c).onLink c f = { s with
      sup := s.supAfterFrame c
      links := s.links.set c
        (f { s.links.get c with receive := .ready, announce := (s.links.get c).flagAfterFrame }) } := by
  simp only [State.frameTaken, State.linksAfterFrame, State.onLink, PerClient.get_set_same, PerClient.set_set]

/-- An update of the link followed by an answer in its register is one update. -/
theorem State.onLink_answer (s : State) (c : Client) (f : Link → Link) (r : Result) (d : Value) :
    (s.onLink c f).answer c r d = s.onLink c fun l => { f l with reply := .answer r d } := by
  simp only [State.answer, State.onLink, PerClient.get_set_same, PerClient.set_set]

/-- An index below 6 names one field of the draft, which takes the VALUE (R149). -/
theorem Draft.write_of_lt (d : Draft) {k : BitVec 5} (v : Value) (h : k.toNat < 6) :
    d.write k v = some
      { flowClass := if k = 0 then v else d.flowClass
        start := if k = 1 then v else d.start
        duration := if k = 2 then v else d.duration
        period := if k = 3 then v else d.period
        count := if k = 4 then v else d.count
        slide := if k = 5 then v else d.slide } := by
  have named : k = 0 ∨ k = 1 ∨ k = 2 ∨ k = 3 ∨ k = 4 ∨ k = 5 := by
    revert k
    decide
  rcases named with rfl | rfl | rfl | rfl | rfl | rfl <;> rfl

/-- An index of 6 or above names no field of the draft (R149). -/
theorem Draft.write_of_ge (d : Draft) {k : BitVec 5} (v : Value) (h : 6 ≤ k.toNat) : d.write k v = none := by
  obtain ⟨n, above⟩ := Nat.exists_eq_add_of_le' h
  rw [Draft.write, above]
  rfl

/-- A FETCH that is taken waits in the register (R146, R147). -/
theorem State.takeFrame_leaveFetch {s : State} {c : Client} (h : s.takes c) (item : Nat) (arg : BitVec 16) :
    (s.whenRunning fun s => s.takeFrame c fun s => s.leaveFetch c item arg) =
      .next (s.answered c (.fetch (BitVec.ofNat 8 item) arg)) :=
  (s.takeFrame_takes c _ h).trans (congrArg _ (s.frameTaken_onLink c _))

/-- Settles O32. -/
theorem framesThatTouchOneLink : Obligations.FramesThatTouchOneLink := by
  refine ⟨fun s c v h => ?clearNotes, fun s c v k d h hd named => ?written, fun s c v k h unnamed => ?range,
    fun s c kind k v h => ?reserved, fun s c a item i h row => ?fetch⟩
  case clearNotes =>
    refine (s.takeFrame_takes c _ h).trans ?_
    rw [State.onLink_answer, State.frameTaken_onLink, State.frameTaken_notices, BitVec.ofNat_toNat]
    rfl
  case written =>
    subst hd
    refine (s.takeFrame_admits c _ h).trans ?_
    rw [State.frameTaken_draft, Draft.write_of_lt _ v named]
    dsimp only
    rw [State.onLink_answer, State.frameTaken_onLink]
  case range =>
    refine (s.takeFrame_admits c _ h).trans ?_
    rw [Draft.write_of_ge _ v unnamed]
    exact congrArg _ (s.frameTaken_refuse c .range)
  case reserved => exact (s.takeFrame_takes c _ h).trans (congrArg _ (s.frameTaken_refuse c .range))
  case fetch =>
    rcases row with ⟨rfl, rfl⟩ | ⟨rfl, rfl⟩ | ⟨rfl, rfl⟩ | ⟨rfl, rfl⟩ | ⟨rfl, rfl⟩ | ⟨rfl, rfl⟩ | ⟨rfl, rfl⟩ |
      ⟨rfl, rfl⟩ | ⟨rfl, rfl⟩ | ⟨rfl, rfl⟩ | ⟨rfl, rfl⟩ | ⟨rfl, rfl⟩ | rfl
    iterate 12 exact State.takeFrame_leaveFetch h _ a
    have taken := State.takeFrame_leaveFetch h item.toNat a
    rwa [BitVec.ofNat_toNat, BitVec.setWidth_eq] at taken

end Sys2Proof.Machine
end

section
namespace Sys2Proof.Machine

/-! ## The links are independent -/

/-- From `s` to `t` no link but the client's own may change in more than its notices, which a frame may bring other
clients (R153). -/
def OwnLinkOnly (c : Client) (s t : State) : Prop :=
  ∀ d, d ≠ c → { t.links.get d with notices := 0 } = { s.links.get d with notices := 0 }

section Links

variable {s t u : State} {c : Client}

theorem OwnLinkOnly.of_links (h : t.links = s.links) : OwnLinkOnly c s t := fun d _ => by rw [h]

theorem OwnLinkOnly.refl (s : State) : OwnLinkOnly c s s := .of_links rfl

theorem OwnLinkOnly.trans (h : OwnLinkOnly c s t) (k : OwnLinkOnly c t u) : OwnLinkOnly c s u :=
  fun d hd => (k d hd).trans (h d hd)

theorem OwnLinkOnly.freeIndex (h : OwnLinkOnly c s t) (k : Nat) : OwnLinkOnly c s { t with freeIndex := k } := h

/-- The arbiter's answers and the notices of a client change no link but in its notices. -/
theorem OwnLinkOnly.then_keeps (k : ArbiterKeeps t u) (h : OwnLinkOnly c s t) : OwnLinkOnly c s u :=
  h.trans fun d _ => k.links d

/-! ### The shared operations -/

theorem ownLink_onLink (c : Client) (f : Link → Link) : OwnLinkOnly c s (s.onLink c f) := fun d hd => by
  rw [State.onLink_links, PerClient.get_set_other _ _ _ _ hd]

theorem ownLink_answer (c : Client) (r : Result) (v : Value) : OwnLinkOnly c s (s.answer c r v) := ownLink_onLink c _

theorem ownLink_refuse (c : Client) (r : Result) : OwnLinkOnly c s (s.refuse c r) := ownLink_answer c r 0

theorem ownLink_rejectFrame (c : Client) : OwnLinkOnly c s (s.rejectFrame c) := by
  refine .trans ?_ (.of_links (State.setPortNotice_links _ _))
  exact ownLink_onLink c _

theorem ownLink_closeFlow (f : Flow) : OwnLinkOnly c s (s.closeFlow f) := by
  unfold State.closeFlow
  dsimp only
  split
  · exact .then_keeps (State.claimsLeft_keeps _ _ _) (.of_links rfl)
  · exact .of_links rfl

theorem ownLink_expireHold (d : Client) : OwnLinkOnly c s (s.expireHold d) := by
  have bound (u : State) : (u.onBoundFlow d Flow.overstayed).links = u.links := by
    unfold State.onBoundFlow
    split <;> rfl
  unfold State.expireHold
  refine .then_keeps (State.claimsLeft_keeps _ _ _) (.trans ?_ (.of_links (State.setPortNotice_links _ _)))
  exact .then_keeps (State.giveNotice_keeps _ _ _) (.of_links (bound _))

theorem ownLink_refreshHold (d : Client) : OwnLinkOnly c s (s.refreshHold d) := by
  unfold State.refreshHold
  split
  · dsimp only
    split
    · refine .trans ?_ (ownLink_expireHold d)
      exact .of_links rfl
    · exact .of_links rfl
  · exact .refl s

theorem ownLink_classChanged (f : Flow) : OwnLinkOnly c s (s.classChanged f) := by
  refine .then_keeps (State.stateCheck_keeps _) ?_
  split
  · exact ownLink_refreshHold _
  · exact .refl s

theorem ownLink_reclassed (f g : Flow) : OwnLinkOnly c s (s.reclassed f g) := by
  unfold State.reclassed
  split
  · exact .of_links rfl
  · refine .trans ?_ (ownLink_classChanged f)
    exact .of_links rfl

theorem ownLink_openFlow (handle : Nat) : OwnLinkOnly c s (s.openFlow c handle) := by
  unfold State.openFlow
  split
  · exact ownLink_refuse c _
  split
  · exact ownLink_refuse c _
  split
  · exact ownLink_refuse c _
  split
  · exact ownLink_refuse c _
  split
  · exact ownLink_refuse c _
  · refine .trans ?_ (ownLink_answer c _ _)
    exact .of_links rfl

theorem ownLink_commitPost (x : Entry) (trimmed advanced : Bool) :
    OwnLinkOnly c s (s.commitPost c x trimmed advanced) := by
  refine .trans ?_ (ownLink_answer c _ _)
  exact .then_keeps (State.wake_keeps _ _) (.of_links rfl)

theorem ownLink_postDraft (f : Flow) (d : Draft) : OwnLinkOnly c s (s.postDraft c f d) := by
  unfold State.postDraft
  split
  · exact ownLink_refuse c _
  split
  · exact ownLink_refuse c _
  split
  · exact ownLink_refuse c _
  split
  · exact ownLink_refuse c _
  split
  · exact ownLink_commitPost _ _ _
  · refine .trans ?_ (ownLink_refuse c _)
    exact .of_links (State.setPortNotice_links _ _)

theorem ownLink_retimeEntry (e : Entry) (o : BitVec 13) : OwnLinkOnly c s (s.retimeEntry e o) := by
  unfold State.retimeEntry
  split
  · exact .then_keeps (State.wake_keeps _ _) (.of_links rfl)
  · exact .refl s
  · exact .of_links rfl

theorem ownLink_removeEntry (e : Entry) (ended : Bool) : OwnLinkOnly c s (s.removeEntry e ended) := by
  have removed : OwnLinkOnly c s ((s.onEntry e.number fun _ => none).giveNoticeIf ended e.owner .ended) :=
    .then_keeps (State.giveNoticeIf_keeps _ _ _ _) (.of_links rfl)
  unfold State.removeEntry State.afterRemoval
  split
  · exact removed.then_keeps (State.claimsLeft_keeps _ _ _)
  · exact removed

theorem ownLink_recompute (note : Option ChannelNote) : OwnLinkOnly c s (s.recompute note) :=
  .then_keeps (State.giveNoticeIf_keeps _ _ _ _) (.then_keeps (State.giveNoticeIf_keeps _ _ _ _) (.of_links rfl))

theorem ownLink_teardown (c : Client) : OwnLinkOnly c s (s.teardown c) := by
  have stripped : OwnLinkOnly c s (s.stripped c) := fun d hd =>
    congrArg (fun l : Link => { l with notices := 0 }) (PerClient.get_set_other _ _ _ _ hd)
  rw [State.teardown_eq]
  refine .then_keeps (State.claimsLeft_keeps _ _ _) ?_
  unfold State.emptied
  split
  · exact stripped.trans (ownLink_recompute none)
  · exact stripped

theorem ownLink_teardownIfAttached (c : Client) : OwnLinkOnly c s (s.teardownIfAttached c) := by
  unfold State.teardownIfAttached
  split
  · exact .refl s
  · exact ownLink_teardown c

/-! ### How a frame runs -/

theorem OwnLinkOnly.whenRunning {f : State → State} (he : s.whenRunning f = .next t) (h : OwnLinkOnly c s (f s)) :
    OwnLinkOnly c s t := by
  cases he
  split
  · exact h
  · exact .refl s

/-- A passing frame consumes the reply of its own link; its act is left to leave the other links alone. -/
theorem OwnLinkOnly.frame {act : State → State} (he : (s.whenRunning fun s => s.takeFrame c act) = .next t)
    (ha : ∀ u, OwnLinkOnly c u (act u)) : OwnLinkOnly c s t := by
  refine .whenRunning he ?_
  unfold State.takeFrame
  split
  · refine .trans ?_ (ha _)
    rw [State.presence_onLink]
    exact ownLink_onLink c Link.consume
  · exact .refl s

theorem OwnLinkOnly.admittedFrame {act : State → State}
    (he : (s.whenRunning fun s => s.takeFrame c fun s => s.ifAdmitted c act) = .next t)
    (ha : ∀ u, OwnLinkOnly c u (act u)) : OwnLinkOnly c s t := by
  refine .frame he fun u => ?_
  unfold State.ifAdmitted
  split
  · exact ha u
  · exact ownLink_refuse c _

/-- A FETCH is left in the register of its own link. -/
theorem OwnLinkOnly.fetch {item : Nat} {arg : BitVec 16}
    (he : (s.whenRunning fun s => s.takeFrame c fun s => s.leaveFetch c item arg) = .next t) : OwnLinkOnly c s t :=
  .frame he fun _ => ownLink_onLink c _

/-! ### The rows -/

theorem execAttach_ownLink {v : Value} (he : execAttach c v s = .next t) : OwnLinkOnly c s t := by
  refine .whenRunning he ?_
  split
  · refine .trans ?_ (ownLink_onLink c _)
    refine .trans (.trans ?_ (ownLink_teardownIfAttached c)) (.of_links (State.onSup_links _ _ _))
    exact ownLink_onLink c Link.consume
  · exact .refl s

theorem execDetach_ownLink {v : Value} (he : execDetach c v s = .next t) : OwnLinkOnly c s t :=
  .frame he fun _ => (ownLink_teardownIfAttached c).trans (ownLink_answer c _ _)

theorem execCloseFlow_ownLink {v : Value} (he : execCloseFlow c v s = .next t) : OwnLinkOnly c s t := by
  refine .admittedFrame he fun u => ?_
  split
  · exact ownLink_refuse c _
  split
  · exact ownLink_refuse c _
  · exact (ownLink_closeFlow _).trans (ownLink_answer c _ _)

theorem execReclass_ownLink {v : Value} (he : execReclass c v s = .next t) : OwnLinkOnly c s t := by
  refine .admittedFrame he fun u => ?_
  split
  · exact ownLink_refuse c _
  split
  · exact ownLink_refuse c _
  split
  · exact ownLink_refuse c _
  · exact (ownLink_reclassed _ _).trans (ownLink_answer c _ _)

theorem execBindLive_ownLink {v : Value} (he : execBindLive c v s = .next t) : OwnLinkOnly c s t := by
  have bound (u : State) (b : Option Nat) (r : Value) :
      OwnLinkOnly c u ((u.onLive c fun l => { l with binding := b }).answer c .ok r) :=
    .trans (.of_links (State.onLive_links _ _ _)) (ownLink_answer c _ _)
  refine .admittedFrame he fun u => ?_
  split
  · split
    · exact bound u _ _
    · exact ownLink_refuse c _
  split
  · exact ownLink_refuse c _
  split
  · exact bound u _ _
  · exact ownLink_refuse c _

theorem execPost_ownLink {v : Value} (he : execPost c v s = .next t) : OwnLinkOnly c s t := by
  refine .admittedFrame he fun u => ?_
  split
  · exact ownLink_refuse c _
  split
  · exact ownLink_refuse c _
  · exact ownLink_postDraft _ _

theorem execRetime_ownLink {v : Value} (he : execRetime c v s = .next t) : OwnLinkOnly c s t := by
  refine .admittedFrame he fun u => ?_
  split
  · exact ownLink_refuse c _
  split
  · exact ownLink_refuse c _
  · exact (ownLink_retimeEntry _ _).trans (ownLink_answer c _ _)

theorem execCancel_ownLink {v : Value} (he : execCancel c v s = .next t) : OwnLinkOnly c s t := by
  refine .admittedFrame he fun u => ?_
  split
  · exact ownLink_refuse c _
  split
  · exact ownLink_refuse c _
  · exact (ownLink_removeEntry _ _).trans (ownLink_answer c _ _)

theorem execChannelNote_ownLink {v : Value} (he : execChannelNote c v s = .next t) : OwnLinkOnly c s t := by
  refine .admittedFrame he fun u => ?_
  split
  · exact ownLink_refuse c _
  split
  · exact ownLink_refuse c _
  · exact (ownLink_recompute _).trans (ownLink_answer c _ _)

theorem execParameterFrame_ownLink {k : BitVec 5} {v : Value} (he : execParameterFrame c k v s = .next t) :
    OwnLinkOnly c s t := by
  refine .admittedFrame he fun u => ?_
  split
  · exact ownLink_refuse c _
  · exact (ownLink_onLink c _).trans (ownLink_answer c _ _)

/-- A frame leaves the other links alone (R153). -/
theorem exec_frame_ownLink {i : Instr} {w : FrameWord} (h : encodeFrame i = some (c, w)) (he : exec i s = .next t) :
    OwnLinkOnly c s t := by
  cases i with
  | present e v => cases h; exact .admittedFrame he fun _ => ownLink_answer c _ _
  | attach e v => cases h; exact execAttach_ownLink (v := v) he
  | detach e v => cases h; exact execDetach_ownLink (v := v) he
  | openFlow e v => cases h; exact .admittedFrame he fun _ => ownLink_openFlow _
  | closeFlow e v => cases h; exact execCloseFlow_ownLink he
  | reclass e v => cases h; exact execReclass_ownLink he
  | bindLive e v => cases h; exact execBindLive_ownLink he
  | post e v => cases h; exact execPost_ownLink he
  | retime e v => cases h; exact execRetime_ownLink he
  | cancel e v => cases h; exact execCancel_ownLink he
  | channelNote e v => cases h; exact execChannelNote_ownLink he
  | fetchTime e a | fetchStatus e a | fetchNotes e a | fetchAccount e a | fetchLast e a | fetchMask e p a
  | fetchFlow e a | fetchFlowcount e a | fetchEntry e a | fetchItemAbove11 e x a => cases h; exact .fetch he
  | clearNotes e v => cases h; exact .frame he fun _ => (ownLink_onLink c _).trans (ownLink_answer c _ _)
  | parameterFrame e k v => cases h; exact execParameterFrame_ownLink he
  | reservedFrame e k x v => cases h; exact .frame he fun _ => ownLink_refuse c _
  | _ => cases h

theorem execReplyCapture_ownLink (he : execReplyCapture c s = .next t) : OwnLinkOnly c s t := by
  refine .whenRunning he ?_
  split
  · dsimp only
    split
    · exact .freeIndex (ownLink_onLink c _) _
    · exact ownLink_onLink c _
  · exact .refl s

theorem execPause_ownLink (he : execPause c s = .next t) : OwnLinkOnly c s t := by
  refine .whenRunning he ?_
  split
  · exact ownLink_onLink c _
  · exact .refl s

theorem execFrameRejected_ownLink {x : FrameFault} (he : execFrameRejected c x s = .next t) : OwnLinkOnly c s t := by
  refine .whenRunning he ?_
  split
  · exact (ownLink_onLink c _).trans (ownLink_rejectFrame c)
  · exact .refl s

theorem execSelectTimeout_ownLink (he : execSelectTimeout c s = .next t) : OwnLinkOnly c s t := by
  refine .whenRunning he ?_
  split
  · exact (ownLink_onLink c _).trans (ownLink_rejectFrame c)
  · exact .refl s

theorem execAbortedFrameEnd_ownLink (he : execAbortedFrameEnd c s = .next t) : OwnLinkOnly c s t := by
  refine .whenRunning he ?_
  split
  · exact ownLink_onLink c _
  · exact .refl s

theorem execSelRiseAfterReset_ownLink (he : execSelRiseAfterReset c s = .next t) : OwnLinkOnly c s t := by
  refine .whenRunning he ?_
  split
  · exact ownLink_onLink c _
  · exact .refl s

end Links

/-- Settles O10. -/
theorem linksAreIndependent : Obligations.LinksAreIndependent := by
  intro i c d s t hd row he
  have own : OwnLinkOnly c s t := by
    rcases row with ⟨w, frame⟩ | rfl | rfl | ⟨x, rfl⟩ | rfl | rfl | rfl
    · exact exec_frame_ownLink frame he
    · exact execReplyCapture_ownLink he
    · exact execPause_ownLink he
    · exact execFrameRejected_ownLink (x := x) he
    · exact execSelectTimeout_ownLink he
    · exact execAbortedFrameEnd_ownLink he
    · exact execSelRiseAfterReset_ownLink he
  obtain ⟨receive, reply, announce, draft, _, errors⟩ := Link.mk.inj (own d hd)
  exact ⟨receive, reply, announce, draft, errors⟩

end Sys2Proof.Machine
end

section
namespace Sys2Proof.Machine

/-! ## A frame is 31 bits and their parity bit -/

/-- Whether an odd number of the 31 bits above P is 1. -/
def bodyParity (x : BitVec 31) : Bool := (List.range 31).foldl (fun acc i => acc ^^ x.getLsbD i) false

/-- The frame of 31 bits, P making the parity of all 32 odd (R142, R144). -/
def framed (x : BitVec 31) : FrameWord := x ++ BitVec.ofBool (!bodyParity x)

/-- A start value is carried through a chain of xors. -/
theorem foldl_xor_init (f : Nat → Bool) (b : Bool) (is : List Nat) :
    is.foldl (fun acc i => acc ^^ f i) b = (b ^^ is.foldl (fun acc i => acc ^^ f i) false) := by
  induction is generalizing b with
  | nil => simp
  | cons i is ih => rw [List.foldl_cons, List.foldl_cons, ih, ih (false ^^ f i), Bool.false_xor, Bool.xor_assoc]

theorem oddParity_append (x : BitVec 31) (p : BitVec 1) :
    oddParity (x ++ p) = (p.getLsbD 0 ^^ bodyParity x) := by
  have upper (i : Nat) : (x ++ p).getLsbD (i + 1) = x.getLsbD i := BitVec.getLsbD_append.trans (by simp)
  have lower : (x ++ p).getLsbD 0 = p.getLsbD 0 := BitVec.getLsbD_append
  rw [oddParity, List.range_succ_eq_map, List.foldl_cons, List.foldl_map, foldl_xor_init]
  simp only [upper, lower, Bool.false_xor]
  rfl

theorem oddParity_framed (x : BitVec 31) : oddParity (framed x) = true := by
  rw [framed, oddParity_append]
  cases bodyParity x <;> rfl

/-- P is 0 where the other bits already hold an odd number of ones, and 1 otherwise. -/
theorem framed_eq_ite (x : BitVec 31) :
    framed x = if oddParity (x ++ 0#1) then x ++ 0#1 else x ++ 1#1 := by
  rw [oddParity_append, framed]
  cases bodyParity x <;> rfl

/-- A frame of odd parity is the frame of its upper 31 bits. -/
theorem framed_extract {w : FrameWord} (h : oddParity w = true) : framed (w.extractLsb' 1 31) = w := by
  have whole : w.extractLsb' 1 31 ++ w.extractLsb' 0 1 = w :=
    (BitVec.extractLsb'_append_extractLsb'_eq_extractLsb' (start₁ := 0) (len₁ := 1) (len₂ := 31) rfl).trans
      BitVec.extractLsb'_eq_self
  rw [← whole, oddParity_append] at h
  have parity : BitVec.ofBool (!bodyParity (w.extractLsb' 1 31)) = w.extractLsb' 0 1 := by
    generalize w.extractLsb' 0 1 = p at h
    generalize bodyParity _ = b at *
    revert b p
    decide
  rw [framed, parity, whole]

/-- A field of a frame above P is a field of the 31 bits. -/
theorem extract_framed (x : BitVec 31) (i n : Nat) : (framed x).extractLsb' (i + 1) n = x.extractLsb' i n :=
  BitVec.extractLsb'_append_eq_of_le (Nat.le_add_left 1 i)

theorem getLsbD_framed (x : BitVec 31) (i : Nat) : (framed x).getLsbD (i + 1) = x.getLsbD i :=
  BitVec.getLsbD_append.trans (by simp)

/-! ## The reply frame and the status word -/

theorem resultCode_lt (r : Result) : resultCode r < 32 := by cases r <;> decide

/-- FLAG, NOTE, RESULT and DATA, without P, in their order (R144). -/
def replyFields (flag note : Bool) (r : Result) (d : Value) : BitVec 31 :=
  BitVec.ofBool flag ++ BitVec.ofBool note ++ BitVec.ofNat 5 (resultCode r) ++ d

/-- A concatenation as a number. -/
theorem append_toNat {m n : Nat} (x : BitVec m) (y : BitVec n) :
    (x ++ y).toNat = 2 ^ n * x.toNat + y.toNat := by
  rw [BitVec.toNat_append, ← Nat.shiftLeft_add_eq_or_of_lt y.isLt, Nat.shiftLeft_eq, Nat.mul_comm]

theorem replyBody_eq (flag note : Bool) (r : Result) (d : Value) :
    replyBody flag note r d = replyFields flag note r d ++ 0#1 := by
  have code := resultCode_lt r
  have data := d.isLt
  apply BitVec.eq_of_toNat_eq
  rw [append_toNat, replyFields, append_toNat, append_toNat, append_toNat, replyBody]
  simp only [BitVec.toNat_ofNat, BitVec.toNat_ofBool]
  cases flag <;> cases note <;> simp <;> omega

theorem replyFrame_eq (flag note : Bool) (r : Result) (d : Value) :
    replyFrame flag note r d = framed (replyFields flag note r d) := by
  have marked (x : BitVec 31) : (x ++ 0#1 ||| 1 : FrameWord) = x ++ 1#1 := by
    have one : (1 : FrameWord) = 0#31 ++ 1#1 := rfl
    exact (congrArg _ one).trans (BitVec.or_append.trans (by simp))
  rw [framed_eq_ite, replyFrame, replyBody_eq, marked]

theorem clientStateCode_lt (x : ClientState) : clientStateCode x < 4 := by cases x <;> decide

theorem liveStateCode_lt (x : LiveState) : liveStateCode x < 4 := by cases x <;> simp [liveStateCode]

/-- The status word as a number: with the counts in their ranges no field runs into the next (R145). -/
theorem State.statusWord_toNat {s : State} {c : Client} (flows : s.flowCount c ≤ 12) (entries : s.entryCount c ≤ 16) :
    (s.statusWord c).toNat =
      clientStateCode (s.sup.get c).state + 4 * liveStateCode (s.live.get c).state + 16 * (s.gnt c).toNat +
        32 * (s.links.get c).notices.toNat + 4096 * s.flowCount c + 65536 * s.entryCount c := by
  have state := clientStateCode_lt (s.sup.get c).state
  have live := liveStateCode_lt (s.live.get c).state
  have notices := (s.links.get c).notices.isLt
  rw [State.statusWord, BitVec.toNat_ofNat]
  cases s.gnt c <;> simp <;> omega

theorem replyFields_flag (flag note : Bool) (r : Result) (d : Value) :
    (replyFields flag note r d).getLsbD 30 = flag :=
  BitVec.getLsbD_append.trans (BitVec.getLsbD_append.trans (BitVec.getLsbD_append.trans (by simp)))

theorem replyFields_note (flag note : Bool) (r : Result) (d : Value) :
    (replyFields flag note r d).getLsbD 29 = note :=
  BitVec.getLsbD_append.trans (BitVec.getLsbD_append.trans (BitVec.getLsbD_append.trans (by simp)))

theorem replyFields_result (flag note : Bool) (r : Result) (d : Value) :
    ((replyFields flag note r d).extractLsb' 24 5).toNat = resultCode r := by
  have field : (replyFields flag note r d).extractLsb' 24 5 = BitVec.ofNat 5 (resultCode r) :=
    (BitVec.extractLsb'_append_eq_of_le le_rfl).trans BitVec.extractLsb'_append_eq_right
  rw [field, BitVec.toNat_ofNat, Nat.mod_eq_of_lt (resultCode_lt r)]

theorem replyFields_data (flag note : Bool) (r : Result) (d : Value) :
    (replyFields flag note r d).extractLsb' 0 24 = d := BitVec.extractLsb'_append_eq_right

/-- Settles O9: the reply frame by its 31 fields and P, the status word by its value as a number. -/
theorem replyAndStatusLayout : Obligations.ReplyAndStatusLayout := by
  refine ⟨fun flag note r d => ?_, fun s c flows entries => ?_⟩
  · rw [replyFrame_eq, extract_framed _ 24 5, extract_framed _ 0 24, getLsbD_framed _ 30, getLsbD_framed _ 29]
    exact ⟨oddParity_framed _, replyFields_flag .., replyFields_note .., replyFields_result .., replyFields_data ..⟩
  · have word := State.statusWord_toNat flows entries
    have state := clientStateCode_lt (s.sup.get c).state
    have live := liveStateCode_lt (s.live.get c).state
    have notices := (s.links.get c).notices.isLt
    have gnt := (s.gnt c).toNat_lt
    have field (i n : Nat) : ((s.statusWord c).extractLsb' i n).toNat = (s.statusWord c).toNat / 2 ^ i % 2 ^ n := by
      rw [BitVec.extractLsb'_toNat, Nat.shiftRight_eq_div_pow]
    refine ⟨?_, ?_, ?gnt, BitVec.eq_of_toNat_eq ?_, ?_, ?_, BitVec.eq_of_toNat_eq ?spare⟩
    case gnt =>
      have bit : (s.statusWord c).toNat / 2 ^ 4 % 2 = (s.gnt c).toNat := by omega
      rw [BitVec.getLsbD, Nat.testBit_eq_decide_div_mod_eq, bit]
      cases s.gnt c <;> rfl
    case spare =>
      rw [field, word]
      change _ = 0
      omega
    all_goals
      rw [field, word]
      omega

end Sys2Proof.Machine
end

section
namespace Sys2Proof.Machine

/-! ## Decode and encode -/

/-! ### The fields of a frame -/

/-- KIND, CODE and VALUE, without P, in their order (R142). -/
def frameBody (kind : BitVec 2) (code : BitVec 5) (value : Value) : BitVec 31 := kind ++ code ++ value

theorem frameOf_eq (kind : BitVec 2) (code : BitVec 5) (value : Value) :
    frameOf kind code value = framed (frameBody kind code value) := (framed_eq_ite _).symm

theorem frameBody_kind (kind : BitVec 2) (code : BitVec 5) (value : Value) :
    (frameBody kind code value).extractLsb' 29 2 = kind :=
  (BitVec.extractLsb'_append_eq_of_le (by decide)).trans BitVec.extractLsb'_append_eq_left

theorem frameBody_code (kind : BitVec 2) (code : BitVec 5) (value : Value) :
    (frameBody kind code value).extractLsb' 24 5 = code :=
  (BitVec.extractLsb'_append_eq_of_le le_rfl).trans BitVec.extractLsb'_append_eq_right

theorem frameBody_value (kind : BitVec 2) (code : BitVec 5) (value : Value) :
    (frameBody kind code value).extractLsb' 0 24 = value := BitVec.extractLsb'_append_eq_right

/-- The fields of 31 bits give the bits back. -/
theorem frameBody_extract (x : BitVec 31) :
    frameBody (x.extractLsb' 29 2) (x.extractLsb' 24 5) (x.extractLsb' 0 24) = x := by
  have upper : x.extractLsb' 29 2 ++ x.extractLsb' 24 5 = x.extractLsb' 24 7 :=
    BitVec.extractLsb'_append_extractLsb'_eq_extractLsb' (start₁ := 24) (len₁ := 5) (len₂ := 2) rfl
  rw [frameBody, upper]
  exact (BitVec.extractLsb'_append_extractLsb'_eq_extractLsb' (start₁ := 0) (len₁ := 24) (len₂ := 7) rfl).trans
    BitVec.extractLsb'_eq_self

/-- A frame of odd parity is the frame of its fields (R142). -/
theorem frameOf_extract {w : FrameWord} (h : oddParity w = true) :
    frameOf (w.extractLsb' 30 2) (w.extractLsb' 25 5) (w.extractLsb' 1 24) = w := by
  have fields := frameBody_extract (w.extractLsb' 1 31)
  rw [← extract_framed _ 29 2, ← extract_framed _ 24 5, ← extract_framed _ 0 24, framed_extract h] at fields
  rw [frameOf_eq, fields, framed_extract h]

/-! ### Frames -/

/-- A frame of odd parity, whose bits are then neither all 0 nor all 1, is read as its fields (R139, R142). -/
theorem decodeFrame_of_odd (c : Client) {w : FrameWord} (h : oddParity w = true) :
    decodeFrame c 32 w = frameFields c (w.extractLsb' 30 2) (w.extractLsb' 25 5) (w.extractLsb' 1 24) := by
  have low : w ≠ 0 := by rintro rfl; revert h; decide
  have high : w ≠ BitVec.allOnes 32 := by rintro rfl; revert h; decide
  rw [decodeFrame, if_neg (by decide), if_neg (by decide), if_neg (by decide), if_neg low, if_neg high,
    if_neg (by simp [h])]

theorem decodeFrame_frameOf (c : Client) (kind : BitVec 2) (code : BitVec 5) (value : Value) :
    decodeFrame c 32 (frameOf kind code value) = frameFields c kind code value := by
  rw [frameOf_eq, decodeFrame_of_odd c (oddParity_framed _), extract_framed _ 29 2, extract_framed _ 24 5,
    extract_framed _ 0 24, frameBody_kind, frameBody_code, frameBody_value]

theorem decodeFrame_fetchFrame (c : Client) (item : BitVec 8) (arg : BitVec 16) :
    decodeFrame c 32 (fetchFrame item arg) = fetchOf c item arg := by
  have fetch : frameFields c 0 11 (item ++ arg) =
      fetchOf c ((item ++ arg).extractLsb' 16 8) ((item ++ arg).extractLsb' 0 16) := rfl
  rw [fetchFrame, decodeFrame_frameOf, fetch, BitVec.extractLsb'_append_eq_left, BitVec.extractLsb'_append_eq_right]

/-- A reserved KIND or CODE is read as one (R142). -/
theorem frameFields_reserved (c : Client) {kind : BitVec 2} {code : BitVec 5} (value : Value)
    (h : 2 ≤ kind.toNat ∨ kind = 0 ∧ 13 ≤ code.toNat) :
    frameFields c kind code value = .reservedFrame c kind code value := by
  rcases h with high | ⟨rfl, above⟩
  · obtain ⟨n, high⟩ := Nat.exists_eq_add_of_le' high
    rw [frameFields, high]
    rfl
  · obtain ⟨n, above⟩ := Nat.exists_eq_add_of_le' above
    change commandOf c code value = _
    rw [commandOf, above]
    rfl

theorem fetchOf_mask (c : Client) (part : BitVec 2) (arg : BitVec 16) :
    fetchOf c (5 + part.setWidth 8) arg = .fetchMask c part arg := by
  have parts : part = 0 ∨ part = 1 ∨ part = 2 ∨ part = 3 := by
    revert part
    decide
  rcases parts with rfl | rfl | rfl | rfl <;> rfl

theorem fetchOf_above (c : Client) {item : BitVec 8} (arg : BitVec 16) (h : 11 < item.toNat) :
    fetchOf c item arg = .fetchItemAbove11 c item arg := by
  obtain ⟨n, above⟩ := Nat.exists_eq_add_of_le' h
  rw [fetchOf, above]
  rfl

/-- A well-formed frame row is what its own frame decodes to (R142, R143, R145). -/
theorem decodeFrame_encodeFrame {i : Instr} {c : Client} {w : FrameWord} (wf : i.wellFormed = true)
    (h : encodeFrame i = some (c, w)) : decodeFrame c 32 w = i := by
  cases i with
  | present e v | attach e v | detach e v | openFlow e v | closeFlow e v | reclass e v | bindLive e v | post e v
  | retime e v | cancel e v | channelNote e v | clearNotes e v | parameterFrame e k v =>
    cases h
    exact decodeFrame_frameOf ..
  | reservedFrame e kind code v =>
    cases h
    have reserved : 2 ≤ kind.toNat ∨ kind = 0 ∧ 13 ≤ code.toNat := by simpa [Instr.wellFormed] using wf
    exact (decodeFrame_frameOf ..).trans (frameFields_reserved c v reserved)
  | fetchTime e a | fetchStatus e a | fetchNotes e a | fetchAccount e a | fetchLast e a | fetchFlow e a
  | fetchFlowcount e a | fetchEntry e a =>
    cases h
    exact decodeFrame_fetchFrame ..
  | fetchMask e part a =>
    cases h
    exact (decodeFrame_fetchFrame ..).trans (fetchOf_mask c part a)
  | fetchItemAbove11 e item a =>
    cases h
    exact (decodeFrame_fetchFrame ..).trans (fetchOf_above c a (by simpa [Instr.wellFormed] using wf))
  | _ => cases h

/-- The row is well-formed and its frame is the one given. -/
def Encodes (c : Client) (w : FrameWord) (i : Instr) : Prop := i.wellFormed = true ∧ encodeFrame i = some (c, w)

theorem encodes_fetchOf (c : Client) (item : BitVec 8) (arg : BitVec 16) :
    Encodes c (fetchFrame item arg) (fetchOf c item arg) := by
  have named {n : Nat} {i : Instr} (hn : item.toNat = n)
      (hi : Encodes c (fetchFrame (BitVec.ofNat 8 n) arg) i) : Encodes c (fetchFrame item arg) i := by
    rwa [← hn, BitVec.ofNat_toNat, BitVec.setWidth_eq] at hi
  unfold fetchOf
  split
  iterate 12 next hn => exact named hn ⟨rfl, rfl⟩
  exact ⟨decide_eq_true (by grind), rfl⟩

theorem encodes_commandOf (c : Client) (code : BitVec 5) (value : Value) :
    Encodes c (frameOf 0 code value) (commandOf c code value) := by
  have named {n : Nat} {i : Instr} (hn : code.toNat = n)
      (hi : Encodes c (frameOf 0 (BitVec.ofNat 5 n) value) i) : Encodes c (frameOf 0 code value) i := by
    rwa [← hn, BitVec.ofNat_toNat, BitVec.setWidth_eq] at hi
  have fetch : fetchFrame (value.extractLsb' 16 8) (value.extractLsb' 0 16) = frameOf 0 11 value :=
    congrArg (frameOf 0 11) <|
      (BitVec.extractLsb'_append_extractLsb'_eq_extractLsb' (start₁ := 0) (len₁ := 16) (len₂ := 8) rfl).trans
        BitVec.extractLsb'_eq_self
  unfold commandOf
  split
  iterate 11 next hn => exact named hn ⟨rfl, rfl⟩
  next hn => exact named hn (fetch ▸ encodes_fetchOf c _ _)
  next hn => exact named hn ⟨rfl, rfl⟩
  have above : 13 ≤ code.toNat := by grind
  exact ⟨by simp [Instr.wellFormed, above], rfl⟩

theorem encodes_frameFields (c : Client) (kind : BitVec 2) (code : BitVec 5) (value : Value) :
    Encodes c (frameOf kind code value) (frameFields c kind code value) := by
  unfold frameFields
  split
  next hn =>
    obtain rfl : kind = 0 := BitVec.eq_of_toNat_eq hn
    exact encodes_commandOf c code value
  next hn =>
    obtain rfl : kind = 1 := BitVec.eq_of_toNat_eq hn
    exact ⟨rfl, rfl⟩
  have high : 2 ≤ kind.toNat := by grind
  exact ⟨by simp [Instr.wellFormed, high], rfl⟩

/-! ### Writes -/

/-- The two bytes of a 16-bit operand give it back (R157). -/
theorem twoBytes_append (w : BitVec 16) : (w.extractLsb' 8 8 ++ w.extractLsb' 0 8 : BitVec 16) = w :=
  (BitVec.extractLsb'_append_extractLsb'_eq_extractLsb' (start₁ := 0) (len₁ := 8) (len₂ := 8) rfl).trans
    BitVec.extractLsb'_eq_self

/-- An executed write row is what its own bytes decode to (R157). -/
theorem decodeWrite_encodeWrite {i : Instr} {bs : List Byte} (h : encodeWrite i = some bs) :
    decodeWrite bs false = i := by
  cases i with
  | setClass k b a f l => cases h; exact congrArg (Instr.setClass k b a f) (twoBytes_append l)
  | setClient d x cap p t => cases h; exact congrArg (Instr.setClient d x · p t) (twoBytes_append cap)
  | setAttnMask m => cases h; exact congrArg Instr.setAttnMask (twoBytes_append m)
  | clearNotices m => cases h; exact congrArg Instr.clearNotices (twoBytes_append m)
  | _ => cases h <;> rfl

/-- Settles O11. -/
theorem framesAndWritesRoundTrip : Obligations.FramesAndWritesRoundTrip := by
  refine ⟨fun i c w wf h => decodeFrame_encodeFrame wf h, fun c w odd => ?_, fun i bs h => decodeWrite_encodeWrite h⟩
  have fields := encodes_frameFields c (w.extractLsb' 30 2) (w.extractLsb' 25 5) (w.extractLsb' 1 24)
  rwa [← decodeFrame_of_odd c odd, frameOf_extract odd] at fields

end Sys2Proof.Machine
end

section
namespace Sys2Proof.Machine

/-! ## The platform port under the shared operations -/

section Port

variable (s : State) (c : Client)

@[simp] theorem State.giveNoticeIf_port (p : Bool) (n : Notice) : (s.giveNoticeIf p c n).port = s.port :=
  (s.giveNoticeIf_keeps p c n).port

@[simp] theorem State.refuse_port (r : Result) : (s.refuse c r).port = s.port := rfl

@[simp] theorem State.presence_port : (s.presence c).port = s.port := by
  unfold State.presence
  split <;> rfl

@[simp] theorem State.stateCheck_port : s.stateCheck.port = s.port := s.stateCheck_keeps.port

@[simp] theorem State.stateCheckIf_port (p : Bool) : (s.stateCheckIf p).port = s.port := (s.stateCheckIf_keeps p).port

@[simp] theorem State.claimArrived_port : (s.claimArrived c).port = s.port := (s.claimArrived_keeps c).port

@[simp] theorem State.claimsLeft_port (b : State) : (b.claimsLeft s c).port = s.port := (b.claimsLeft_keeps s c).port

@[simp] theorem State.grant_port : (s.grant c).port = s.port := (s.grant_keeps c).port

@[simp] theorem State.wake_port (n : Nat) : (s.wake n).port = s.port := (s.wake_keeps n).port

@[simp] theorem State.wakeAll_port (ns : List Nat) : (s.wakeAll ns).port = s.port := by
  induction ns generalizing s with
  | nil => rfl
  | cons n ns ih => exact (ih (s.wake n)).trans (s.wake_port n)

@[simp] theorem State.onBoundFlow_port (f : Flow → Flow) : (s.onBoundFlow c f).port = s.port := by
  unfold State.onBoundFlow
  split <;> rfl

@[simp] theorem State.advanceEntry_port (e : Entry) : (s.advanceEntry e).port = s.port :=
  State.giveNoticeIf_port _ _ _ _

@[simp] theorem State.missOccurrence_port (e : Entry) : (s.missOccurrence e).port = s.port := by
  simp [State.missOccurrence]

@[simp] theorem State.serveOccurrence_port (e : Entry) : (s.serveOccurrence e).port = s.port := by
  simp [State.serveOccurrence]

@[simp] theorem State.retimeEntry_port (e : Entry) (o : BitVec 13) : (s.retimeEntry e o).port = s.port := by
  unfold State.retimeEntry
  split <;> simp

@[simp] theorem State.closeFlow_port (f : Flow) : (s.closeFlow f).port = s.port := by
  rw [State.closeFlow_eq]
  split
  · exact State.claimsLeft_port _ _ s
  · rfl

@[simp] theorem State.openFlow_port (handle : Nat) : (s.openFlow c handle).port = s.port := by
  unfold State.openFlow
  repeat' split
  all_goals rfl

@[simp] theorem State.recompute_port (note : Option ChannelNote) : (s.recompute note).port = s.port := by
  simp [State.recompute]

@[simp] theorem State.teardownIfAttached_port : (s.teardownIfAttached c).port = s.port := by
  unfold State.teardownIfAttached
  split
  · rfl
  · rw [State.teardown_eq, State.claimsLeft_port, State.emptied_frame]
    rfl

@[simp] theorem State.reviveClient_port : (s.reviveClient c).port = s.port := by
  simp [State.reviveClient_eq, State.reopened]

@[simp] theorem State.setClient_port (share cap presence rank : Nat) :
    (s.setClient c share cap presence rank).port = s.port := by
  rw [State.setClient_eq, State.stateCheck_port]
  unfold State.clientWritten
  split <;> simp

@[simp] theorem State.defaultMoved_port (old : Client) : (s.defaultMoved old).port = s.port := by
  have moved : (s.passZeroGuard s.moveToDefault).port = s.port :=
    (State.passZeroGuard_keeps s.moveToDefault_keeps s).port
  unfold State.defaultMoved
  split
  · rfl
  split
  · exact moved
  · exact moved
  · rfl

@[simp] theorem State.setArbiter_port (g m a : Nat) (p : Client) (x : Nat) :
    (s.setArbiter g m a p x).port = s.port := by
  rw [State.setArbiter_eq, State.stateCheck_port, State.masksFor_port, State.defaultMoved_port]
  rfl

end Port

/-! ## What only raises notices -/

/-- From `s` to `t` the ATTN enable mask is kept and no notice flag of the platform falls (R165, R166). -/
structure State.Notifies (s t : State) : Prop where
  attnMask : t.port.attnMask = s.port.attnMask
  flag : ∀ i, s.port.flags.getLsbD i = true → t.port.flags.getLsbD i = true

section Notices

variable {s t u : State} {c : Client}

theorem State.Notifies.of_port (h : t.port = s.port) : s.Notifies t := ⟨by rw [h], fun i hi => by rw [h]; exact hi⟩

theorem State.Notifies.refl (s : State) : s.Notifies s := .of_port rfl

theorem State.Notifies.trans (h : s.Notifies t) (k : t.Notifies u) : s.Notifies u :=
  ⟨k.attnMask.trans h.attnMask, fun i hi => k.flag i (h.flag i hi)⟩

/-- What leaves the port alone adds nothing to the notices raised before it. -/
theorem State.Notifies.quiet (h : s.Notifies t) (k : u.port = t.port) : s.Notifies u := h.trans (.of_port k)

theorem State.setPortNotice_notifies (s : State) (n : PortNotice) : s.Notifies (s.setPortNotice n) :=
  ⟨rfl, fun i hi => by simp [State.setPortNotice, hi]⟩

theorem State.refuseWrite_notifies (s : State) (r : PortResult) : s.Notifies (s.refuseWrite r) :=
  ⟨rfl, fun _ hi => hi⟩

theorem State.setPortNoticeIf_notifies (s : State) (p : Bool) (n : PortNotice) :
    s.Notifies (s.setPortNoticeIf p n) := by
  cases p
  · exact .refl s
  · exact s.setPortNotice_notifies n

theorem State.rejectFrame_notifies (s : State) (c : Client) : s.Notifies (s.rejectFrame c) := by
  refine .trans ?_ (State.setPortNotice_notifies _ .linkErr)
  exact .of_port rfl

theorem State.expireHold_notifies (s : State) (c : Client) : s.Notifies (s.expireHold c) := by
  unfold State.expireHold
  refine State.Notifies.quiet (.trans ?_ (State.setPortNotice_notifies _ .overstay)) (State.claimsLeft_port _ _ _)
  exact .of_port (by simp)

theorem State.silence_notifies (s : State) (c : Client) : s.Notifies (s.silence c) := by
  have raised : s.Notifies (s.silenced c) := ⟨rfl, (s.setPortNotice_notifies (.silent c)).flag⟩
  exact raised.quiet (State.claimsLeft_port _ _ _)

theorem State.refreshHold_notifies (s : State) (c : Client) : s.Notifies (s.refreshHold c) := by
  unfold State.refreshHold
  split
  · dsimp only
    split
    · refine .trans ?_ (State.expireHold_notifies _ c)
      exact .of_port rfl
    · exact .of_port rfl
  · exact .refl s

theorem State.refreshHoldOfClass_notifies (s : State) (k : FlowClass) (c : Client) :
    s.Notifies (s.refreshHoldOfClass k c) := by
  unfold State.refreshHoldOfClass
  split
  · exact .refl s
  split
  · exact .refl s
  split
  · exact s.refreshHold_notifies c
  · exact .refl s

theorem State.refreshHolds_notifies (s : State) (k : FlowClass) : s.Notifies (s.refreshHolds k) :=
  ((s.refreshHoldOfClass_notifies k .nr).trans (State.refreshHoldOfClass_notifies _ k .sr)).trans
    (State.refreshHoldOfClass_notifies _ k .ar)

theorem State.reclassed_notifies (s : State) (f g : Flow) : s.Notifies (s.reclassed f g) := by
  have record : s.Notifies (s.onFlow f.slot fun _ => g) := .of_port rfl
  unfold State.reclassed State.classChanged
  split
  · exact record
  split
  · exact (record.trans (State.refreshHold_notifies _ _)).quiet (State.stateCheck_port _)
  · exact record.quiet (State.stateCheck_port _)

theorem State.setPin_notifies (s : State) (f : Flow) (p : Option FlowClass) : s.Notifies (s.setPin f p) := by
  unfold State.setPin
  split
  · exact .refl s
  · exact (State.Notifies.of_port (s.giveNotice_port _ _)).trans (State.reclassed_notifies _ _ _)

theorem State.postDraft_notifies (s : State) (c : Client) (f : Flow) (d : Draft) : s.Notifies (s.postDraft c f d) := by
  unfold State.postDraft
  split
  · exact .of_port rfl
  split
  · exact .of_port rfl
  split
  · exact .of_port rfl
  split
  · exact .of_port rfl
  split
  · exact .of_port (by simp [State.commitPost])
  · exact (s.setPortNotice_notifies .refused).quiet (State.refuse_port _ _ _)

theorem State.doRollover_notifies (s : State) : s.Notifies s.doRollover := by
  unfold State.doRollover
  dsimp only
  refine State.Notifies.quiet (.trans (.trans ?_ (State.setPortNoticeIf_notifies _ _ _))
    (State.setPortNoticeIf_notifies _ _ _)) (State.stateCheckIf_port _ _)
  exact .of_port rfl

theorem State.restartWindow_notifies (s : State) (n r : Nat) : s.Notifies (s.restartWindow n r) := by
  refine .trans ?_ (State.setPortNoticeIf_notifies _ _ _)
  exact .of_port rfl

/-! ### How rows run -/

theorem State.Notifies.whenRunning {f : State → State} (he : s.whenRunning f = .next t) (hf : s.Notifies (f s)) :
    s.Notifies t := by
  cases he
  split
  · exact hf
  · exact .refl s

theorem State.Notifies.frame {act : State → State} (he : (s.whenRunning fun s => s.takeFrame c act) = .next t)
    (ha : ∀ u : State, u.Notifies (act u)) : s.Notifies t := by
  refine .whenRunning he ?_
  unfold State.takeFrame
  split
  · refine .trans ?_ (ha _)
    exact .of_port (State.presence_port _ c)
  · exact .refl s

theorem State.Notifies.admittedFrame {act : State → State}
    (he : (s.whenRunning fun s => s.takeFrame c fun s => s.ifAdmitted c act) = .next t)
    (ha : ∀ u : State, u.Notifies (act u)) : s.Notifies t := by
  refine .frame he fun u => ?_
  unfold State.ifAdmitted
  split
  · exact ha u
  · exact .of_port rfl

end Notices
end Sys2Proof.Machine
end

section
namespace Sys2Proof.Machine

/-! ## The platform port under the rows that are no executed writes -/

section Rows

variable {s t : State} {c : Client}

/-! ### Rows of the links -/

theorem execReplyCapture_port (he : execReplyCapture c s = .next t) : s.Notifies t := by
  refine .whenRunning he ?_
  split
  · dsimp only
    split <;> exact .of_port rfl
  · exact .refl s

theorem execPause_port (he : execPause c s = .next t) : s.Notifies t := by
  refine .whenRunning he ?_
  split <;> exact .of_port rfl

theorem execAbortedFrameEnd_port (he : execAbortedFrameEnd c s = .next t) : s.Notifies t := by
  refine .whenRunning he ?_
  split <;> exact .of_port rfl

theorem execSelRiseAfterReset_port (he : execSelRiseAfterReset c s = .next t) : s.Notifies t := by
  refine .whenRunning he ?_
  split <;> exact .of_port rfl

theorem execFrameRejected_port {x : FrameFault} (he : execFrameRejected c x s = .next t) : s.Notifies t := by
  refine .whenRunning he ?_
  split
  · refine .trans ?_ (State.rejectFrame_notifies _ c)
    exact .of_port rfl
  · exact .refl s

theorem execSelectTimeout_port (he : execSelectTimeout c s = .next t) : s.Notifies t := by
  refine .whenRunning he ?_
  split
  · refine .trans ?_ (State.rejectFrame_notifies _ c)
    exact .of_port rfl
  · exact .refl s

theorem execAttach_port {v : Value} (he : execAttach c v s = .next t) : s.Notifies t := by
  refine .whenRunning he ?_
  split
  · exact .of_port (State.teardownIfAttached_port (s.onLink c Link.consume) c)
  · exact .refl s

theorem execCloseFlow_port {v : Value} (he : execCloseFlow c v s = .next t) : s.Notifies t := by
  refine .admittedFrame he fun u => ?_
  split
  · exact .of_port rfl
  split
  · exact .of_port rfl
  · exact .of_port (u.closeFlow_port _)

theorem execReclass_port {v : Value} (he : execReclass c v s = .next t) : s.Notifies t := by
  refine .admittedFrame he fun u => ?_
  split
  · exact .of_port rfl
  split
  · exact .of_port rfl
  split
  · exact .of_port rfl
  · exact (u.reclassed_notifies _ _).quiet rfl

theorem execBindLive_port {v : Value} (he : execBindLive c v s = .next t) : s.Notifies t := by
  refine .admittedFrame he fun u => ?_
  split
  · split <;> exact .of_port rfl
  split
  · exact .of_port rfl
  · split <;> exact .of_port rfl

theorem execPost_port {v : Value} (he : execPost c v s = .next t) : s.Notifies t := by
  refine .admittedFrame he fun u => ?_
  split
  · exact .of_port rfl
  split
  · exact .of_port rfl
  · exact u.postDraft_notifies c _ _

theorem execRetime_port {v : Value} (he : execRetime c v s = .next t) : s.Notifies t := by
  refine .admittedFrame he fun u => ?_
  split
  · exact .of_port rfl
  split
  · exact .of_port rfl
  · exact .of_port (u.retimeEntry_port _ _)

theorem execCancel_port {v : Value} (he : execCancel c v s = .next t) : s.Notifies t := by
  refine .admittedFrame he fun u => ?_
  split
  · exact .of_port rfl
  split
  · exact .of_port rfl
  · exact .of_port (u.removeEntry_port _ _)

theorem execChannelNote_port {v : Value} (he : execChannelNote c v s = .next t) : s.Notifies t := by
  refine .admittedFrame he fun u => ?_
  split
  · exact .of_port rfl
  split
  · exact .of_port rfl
  · exact .of_port (u.recompute_port _)

theorem execParameterFrame_port {k : BitVec 5} {v : Value} (he : execParameterFrame c k v s = .next t) :
    s.Notifies t := by
  refine .admittedFrame he fun u => ?_
  split <;> exact .of_port rfl

/-! ### Rows of the request lines and of the air clock -/

theorem execReqRise_port (he : execReqRise c s = .next t) : s.Notifies t := by
  refine .whenRunning he ?_
  split
  · exact .refl s
  split
  · exact .of_port (State.claimArrived_port (s.onLive c _) c)
  · exact .of_port rfl

theorem execReqFall_port (he : execReqFall c s = .next t) : s.Notifies t := by
  refine .whenRunning he ?_
  split
  · exact .refl s
  dsimp only
  split
  · exact .of_port (State.claimsLeft_port (s.onLive c _) c s)
  · exact .of_port rfl

theorem execPrioEdge_port {x : Bool} (he : execPrioEdge c x s = .next t) : s.Notifies t :=
  .whenRunning he (.of_port rfl)

theorem execStartReached_port {n : Fin 32} (he : execStartReached n s = .next t) : s.Notifies t :=
  .whenRunning he (.of_port (s.wake_port n.val))

theorem execSuspendedStep_port {n : Fin 32} (he : execSuspendedStep n s = .next t) : s.Notifies t :=
  .whenRunning he (.of_port rfl)

theorem execOneshotExpired_port {n : Fin 32} (he : execOneshotExpired n s = .next t) : s.Notifies t :=
  .whenRunning he (.of_port rfl)

theorem execAgingExpiry_port (he : execAgingExpiry c s = .next t) : s.Notifies t := by
  refine .whenRunning he ?_
  split
  · exact .of_port (by simp)
  · exact .refl s

theorem execHoldExpiry_port (he : execHoldExpiry c s = .next t) : s.Notifies t := by
  refine .whenRunning he ?_
  split
  · exact s.expireHold_notifies c
  · exact .refl s

theorem execPresenceExpiry_port (he : execPresenceExpiry c s = .next t) : s.Notifies t := by
  refine .whenRunning he ?_
  split
  · exact s.silence_notifies c
  · exact .refl s

theorem execMiss_port {n : Fin 32} (he : execMiss n s = .next t) : s.Notifies t := by
  refine .whenRunning he ?_
  split
  · exact .refl s
  split
  · exact .of_port (s.missOccurrence_port _)
  · exact .refl s

theorem execOccurrenceEnd_port {n : Fin 32} (he : execOccurrenceEnd n s = .next t) : s.Notifies t := by
  refine .whenRunning he ?_
  split
  · exact .refl s
  split
  · exact .of_port (s.serveOccurrence_port _)
  · exact .refl s

theorem execGuardEndSettling_port (he : execGuardEndSettling s = .next t) : s.Notifies t := by
  refine .whenRunning he ?_
  split
  · split
    · exact .of_port (s.grant_port _)
    · exact .refl s
  · exact .refl s

theorem execGuardEndParking_port (he : execGuardEndParking s = .next t) : s.Notifies t := by
  refine .whenRunning he ?_
  split
  · split
    · exact .of_port (s.setMode_port _)
    · exact .refl s
  · exact .refl s

theorem execRollover_port (he : execRollover s = .next t) : s.Notifies t := by
  refine .whenRunning he ?_
  split
  · exact s.doRollover_notifies
  · exact .refl s

theorem execPenaltyCrossing_port (he : execPenaltyCrossing s = .next t) : s.Notifies t := by
  refine .whenRunning he ?_
  split
  · split
    · exact .of_port (State.stateCheck_port _)
    · exact .refl s
  · exact .refl s

theorem execDiscardedWrite_port {x : WriteFault} (he : execDiscardedWrite x s = .next t) : s.Notifies t :=
  .whenRunning he (s.refuseWrite_notifies _)

/-- A row that is no executed write and no row of RESETN keeps the mask and lets no flag fall (R165, R166). -/
theorem exec_notifies (i : Instr) (write : encodeWrite i = none) (reset : Instr.isReset i = false)
    (he : exec i s = .next t) : s.Notifies t := by
  cases i with
  | resetEnd p => cases reset
  | resetnLow => cases reset
  | replyCapture c => exact execReplyCapture_port he
  | pause c => exact execPause_port he
  | frameRejected c x => exact execFrameRejected_port (x := x) he
  | selectTimeout c => exact execSelectTimeout_port he
  | abortedFrameEnd c => exact execAbortedFrameEnd_port he
  | selRiseAfterReset c => exact execSelRiseAfterReset_port he
  | present c v => exact .admittedFrame he fun _ => .of_port rfl
  | attach c v => exact execAttach_port (v := v) he
  | detach c v => exact .frame he fun u => .of_port (u.teardownIfAttached_port c)
  | openFlow c v => exact .admittedFrame he fun u => .of_port (u.openFlow_port c _)
  | closeFlow c v => exact execCloseFlow_port he
  | reclass c v => exact execReclass_port he
  | bindLive c v => exact execBindLive_port he
  | post c v => exact execPost_port he
  | retime c v => exact execRetime_port he
  | cancel c v => exact execCancel_port he
  | channelNote c v => exact execChannelNote_port he
  | fetchTime c a | fetchStatus c a | fetchNotes c a | fetchAccount c a | fetchLast c a | fetchMask c p a
  | fetchFlow c a | fetchFlowcount c a | fetchEntry c a | fetchItemAbove11 c x a | clearNotes c v
  | reservedFrame c k x v => exact .frame he fun _ => .of_port rfl
  | parameterFrame c k v => exact execParameterFrame_port he
  | reqRise c => exact execReqRise_port he
  | reqFall c => exact execReqFall_port he
  | prioEdge c x => exact execPrioEdge_port he
  | agingExpiry c => exact execAgingExpiry_port he
  | holdExpiry c => exact execHoldExpiry_port he
  | presenceExpiry c => exact execPresenceExpiry_port he
  | startReached n => exact execStartReached_port he
  | miss n => exact execMiss_port he
  | occurrenceEnd n => exact execOccurrenceEnd_port he
  | suspendedStep n => exact execSuspendedStep_port he
  | oneshotExpired n => exact execOneshotExpired_port he
  | guardEndSettling => exact execGuardEndSettling_port he
  | guardEndParking => exact execGuardEndParking_port he
  | rollover => exact execRollover_port he
  | penaltyCrossing => exact execPenaltyCrossing_port he
  | discardedWrite x => exact execDiscardedWrite_port he
  | emptyWrite => exact .whenRunning (f := fun s => s) he (.refl s)
  | _ => cases write

/-! ## The platform port under the writes -/

/-- What a READ prepares; none where its index names nothing (R164, R167). -/
def Instr.readout : Instr → Option (State → Option (List Byte))
  | .readNotices => some fun s => some s.noticesReadout
  | .readClient b => some fun s => (clientOfIndex b.toNat).map s.clientReadout
  | .readAccount b => some fun s => (clientOfIndex b.toNat).map s.accountReadout
  | .readFlow k => some fun s => (s.flowAt k.toNat).map s.flowReadout
  | .readEntry n => some fun s => (s.entryAt n.toNat).map entryReadout
  | .readPlanOrder => some fun s => some s.orderReadout
  | .readAir => some fun s => some s.airReadout
  | .readChannel => some fun s => some s.channelReadout
  | .readSurvey => some fun s => some s.surveyReadout
  | _ => none

theorem exec_read {i : Instr} {readout : State → Option (List Byte)} (hi : Instr.readout i = some readout)
    (s : State) : exec i s = s.whenRunning fun s => s.read (readout s) := by
  cases i with
  | readNotices | readClient b | readAccount b | readFlow k | readEntry n | readPlanOrder | readAir | readChannel
  | readSurvey => cases hi; rfl
  | _ => cases hi

/-- A write ends: what comes before it may raise notices; then it is executed with OK or CLAMPED, which clears RESET, or
no flag falls (R156, R165). -/
def State.WriteEnds (s t : State) : Prop :=
  s.Notifies t ∨ ∃ u r bs, s.Notifies u ∧ (r = .ok ∨ r = .clamped) ∧ t.port = u.port.wrote r bs

theorem State.WriteEnds.row {f : State → State} (he : s.whenRunning f = .next t) (hf : s.WriteEnds (f s)) :
    s.WriteEnds t := by
  cases he
  split
  · exact hf
  · exact .inl (.refl s)

theorem State.WriteEnds.ok (h : s.Notifies t) (bs : List Byte) : s.WriteEnds (t.finishWrite .ok bs) :=
  .inr ⟨t, .ok, bs, h, .inl rfl, by rw [State.finishWrite_eq]⟩

theorem State.WriteEnds.clampedIf (h : s.Notifies t) (p : Bool) (bs : List Byte) :
    s.WriteEnds (t.finishWrite (clampedIf p) bs) := by
  cases p
  · exact .ok h bs
  · exact .inr ⟨t, .clamped, bs, h, .inr rfl, by rw [State.finishWrite_eq]; rfl⟩

theorem State.WriteEnds.refused (s : State) (r : PortResult) : s.WriteEnds (s.refuseWrite r) :=
  .inl (s.refuseWrite_notifies r)

theorem State.WriteEnds.of_read {i : Instr} {readout : State → Option (List Byte)}
    (hi : Instr.readout i = some readout) (he : exec i s = .next t) : s.WriteEnds t := by
  refine .row ((exec_read hi s).symm.trans he) ?_
  unfold State.read
  split
  · exact .refused s _
  · exact .ok (.refl s) _

/-- No write but SET ATTN MASK writes the mask (R166). -/
theorem State.WriteEnds.attnMask (h : s.WriteEnds t) : t.port.attnMask = s.port.attnMask := by
  rcases h with h | ⟨u, r, bs, hu, _, ht⟩
  · exact h.attnMask
  · rw [ht]
    exact hu.attnMask

/-- A flag falls only with a write that was executed (R165). -/
theorem State.WriteEnds.executed (h : s.WriteEnds t) {i : Nat} (set : s.port.flags.getLsbD i = true)
    (fell : t.port.flags.getLsbD i = false) : t.port.lastResult = .ok ∨ t.port.lastResult = .clamped := by
  rcases h with h | ⟨u, r, bs, _, hr, ht⟩
  · exact absurd (fell.symm.trans (h.flag i set)) nofun
  · rw [ht]
    exact hr

theorem execSetClass_writeEnds {k b a f : Byte} {l : BitVec 16}
    (he : execSetClass k b a f l s = .next t) : s.WriteEnds t := by
  refine .row he ?_
  split
  · exact .refused s _
  · refine .clampedIf (State.Notifies.quiet ?_ (State.stateCheck_port _)) _ _
    refine .trans ?_ (State.refreshHolds_notifies _ _)
    exact .of_port rfl

theorem execSetClient_writeEnds {b share : Byte} {cap : BitVec 16} {p rank : Byte}
    (he : execSetClient b share cap p rank s = .next t) : s.WriteEnds t := by
  refine .row he ?_
  split
  · exact .refused s _
  · exact .clampedIf (.of_port (s.setClient_port _ _ _ _ _)) _ _

theorem execSetWindow_writeEnds {n r : Byte} (he : execSetWindow n r s = .next t) :
    s.WriteEnds t :=
  .row he (.clampedIf ((s.restartWindow_notifies _ _).quiet (State.stateCheck_port _)) _ _)

theorem execSetArbiter_writeEnds {g m a p x : Byte} (he : execSetArbiter g m a p x s = .next t) :
    s.WriteEnds t := .row he (.clampedIf (.of_port (s.setArbiter_port _ _ _ _ _)) _ _)

theorem execFreezePlan_writeEnds {b x : Byte} (he : execFreezePlan b x s = .next t) :
    s.WriteEnds t := by
  refine .row he ?_
  split
  · exact .refused s _
  · refine .ok ?_ _
    exact .of_port (State.giveNoticeIf_port _ _ _ _)

theorem execPinFlow_writeEnds {k x : Byte} (he : execPinFlow k x s = .next t) :
    s.WriteEnds t := by
  refine .row he ?_
  split
  · exact .refused s _
  · exact .clampedIf (s.setPin_notifies _ _) _ _

theorem execUnpinFlow_writeEnds {k : Byte} (he : execUnpinFlow k s = .next t) :
    s.WriteEnds t := by
  refine .row he ?_
  split
  · exact .refused s _
  · exact .ok (s.setPin_notifies _ _) _

theorem execDropEntry_writeEnds {n : Byte} (he : execDropEntry n s = .next t) :
    s.WriteEnds t := by
  refine .row he ?_
  split
  · exact .refused s _
  · exact .ok (.of_port (s.removeEntry_port _ _)) _

theorem execEvict_writeEnds {b : Byte} (he : execEvict b s = .next t) : s.WriteEnds t := by
  refine .row he ?_
  split
  · exact .refused s _
  · exact .ok (.of_port (s.teardownIfAttached_port _)) _

theorem execRevive_writeEnds {b : Byte} (he : execRevive b s = .next t) : s.WriteEnds t := by
  refine .row he ?_
  split
  · exact .refused s _
  split
  · exact .ok (.of_port (s.reviveClient_port _)) _
  · exact .refused s _

theorem execStartSurvey_writeEnds {k : Byte} (he : execStartSurvey k s = .next t) :
    s.WriteEnds t := by
  refine .row he ?_
  split
  · exact .refused s _
  · refine .clampedIf ?_ _ _
    exact .of_port rfl

theorem execStopSurvey_writeEnds (he : execStopSurvey s = .next t) : s.WriteEnds t := by
  refine .row he (.ok ?_ _)
  split <;> exact .of_port rfl

theorem execRestart_writeEnds (he : execRestart s = .next t) : s.WriteEnds t := by
  refine .row he (.ok ?_ _)
  exact .of_port rfl

/-- The writes that store no notice flag and no mask end as `WriteEnds` says. -/
theorem exec_writeEnds (i : Instr) (write : encodeWrite i ≠ none) (mask : ∀ w, i ≠ .setAttnMask w)
    (clear : ∀ w, i ≠ .clearNotices w) (he : exec i s = .next t) : s.WriteEnds t := by
  cases i with
  | setClass k b a f l => exact execSetClass_writeEnds he
  | setClient b x cap p rank => exact execSetClient_writeEnds he
  | setWindow n r => exact execSetWindow_writeEnds he
  | setArbiter g m a p x => exact execSetArbiter_writeEnds he
  | freezePlan b x => exact execFreezePlan_writeEnds he
  | pinFlow k x => exact execPinFlow_writeEnds he
  | unpinFlow k => exact execUnpinFlow_writeEnds he
  | dropEntry n => exact execDropEntry_writeEnds he
  | evict b => exact execEvict_writeEnds he
  | revive b => exact execRevive_writeEnds he
  | startSurvey k => exact execStartSurvey_writeEnds he
  | stopSurvey => exact execStopSurvey_writeEnds he
  | restart => exact execRestart_writeEnds he
  | setAttnMask w => exact absurd rfl (mask w)
  | clearNotices w => exact absurd rfl (clear w)
  | readNotices | readClient b | readAccount b | readFlow k | readEntry n | readPlanOrder | readAir | readChannel
  | readSurvey => exact .of_read rfl he
  | _ => exact absurd rfl write

end Rows
end Sys2Proof.Machine
end

section
namespace Sys2Proof.Machine

/-! ## ATTN and the notices of the platform -/

section Attn

variable {s t : State}

/-- ATTN is low exactly while RESETN is high and an enabled flag is set (R166). -/
theorem State.attnLow_iff (s : State) : s.attnLow = true ↔
    s.resetn = true ∧ ∃ i, i < 10 ∧ s.port.flags.getLsbD i = true ∧ s.port.attnMask.getLsbD i = true := by
  have enabled : s.port.flags &&& s.port.attnMask ≠ 0 ↔
      ∃ i, i < 10 ∧ s.port.flags.getLsbD i = true ∧ s.port.attnMask.getLsbD i = true := by
    constructor
    · intro h
      by_contra none
      push Not at none
      refine h (BitVec.eq_of_getLsbD_eq fun i hi => ?_)
      simpa using none i hi
    · rintro ⟨i, _, flag, mask⟩ h
      have bit := congrArg (·.getLsbD i) h
      simp [flag, mask] at bit
  rw [← enabled]
  simp [State.attnLow]

theorem exec_setAttnMask (high : s.resetn = true) (w : BitVec 16) :
    exec (.setAttnMask w) s = .next { s with
      port := { (s.port.wrote .ok []) with attnMask := w.extractLsb' 0 10 } } := by
  simp only [exec, execSetAttnMask, s.whenRunning_high _ high, State.finishWrite_eq]
  rfl

/-- The low bits of a quotient by a power of 2 are a field of the bits. -/
theorem ofNat_toNat_div {w : Nat} (x : BitVec w) (k n : Nat) :
    BitVec.ofNat n (x.toNat / 2 ^ k) = x.extractLsb' k n := by
  rw [← Nat.shiftRight_eq_div_pow]
  rfl

/-- The two bytes of a 16-bit number (R157). -/
theorem bytes2_toNat (x : BitVec 16) : bytes2 x.toNat = twoBytes x := by
  have low := ofNat_toNat_div x 0 8
  rw [pow_zero, Nat.div_one] at low
  exact congrArg₂ (fun h l : Byte => [h, l]) (ofNat_toNat_div x 8 8) low

/-- The two bytes of the platform's ten notice flags or of their mask (R157, R165, R166). -/
theorem bytes2_flags (x : BitVec 10) : bytes2 x.toNat = twoBytes (x.setWidth 16) := by
  rw [← bytes2_toNat, BitVec.toNat_setWidth_of_le (by decide)]

theorem exec_readNotices (high : s.resetn = true) :
    exec .readNotices s = .next { s with
      port := s.port.wrote .ok (twoBytes (s.port.flags.setWidth 16) ++ twoBytes (s.port.attnMask.setWidth 16)) } := by
  rw [exec_read rfl, s.whenRunning_high _ high]
  simp only [State.read, State.finishWrite_eq, State.noticesReadout, bytes2_flags]

theorem exec_clearNotices (high : s.resetn = true) (w : BitVec 16) :
    exec (.clearNotices w) s = .next { s with port :=
      { (s.port.wrote .ok (twoBytes (s.port.flags.setWidth 16))) with
        flags := (s.port.flags &&& ~~~(w.extractLsb' 0 10)) &&& 0x3FE } } := by
  simp only [exec, execClearNotices, s.whenRunning_high _ high, State.finishWrite_eq, bytes2_flags]
  rfl

/-- With RESETN high after a row other than RESET_END, the row is none of RESETN and RESETN was high before. -/
theorem exec_running {i : Instr} (high : t.resetn = true) (notEnd : ∀ p, i ≠ .resetEnd p)
    (he : exec i s = .next t) : Instr.isReset i = false ∧ s.resetn = true := by
  have reset : Instr.isReset i = false := by
    rw [← Bool.not_eq_true, Instr.isReset_iff]
    rintro (⟨p, rfl⟩ | rfl)
    · exact notEnd p rfl
    · cases he
      cases high
  exact ⟨reset, (exec_keeps i reset he .resetn id).symm.trans high⟩

/-- No row but SET ATTN MASK and those of RESETN writes the ATTN enable mask (R166). -/
theorem exec_attnMask {i : Instr} (mask : ∀ w, i ≠ .setAttnMask w) (reset : Instr.isReset i = false)
    (high : s.resetn = true) (he : exec i s = .next t) : t.port.attnMask = s.port.attnMask := by
  by_cases clear : ∃ w, i = .clearNotices w
  · obtain ⟨w, rfl⟩ := clear
    rw [exec_clearNotices high] at he
    cases he
    rfl
  by_cases write : encodeWrite i = none
  · exact (exec_notifies i write reset he).attnMask
  · exact (exec_writeEnds i write mask (fun w h => clear ⟨w, h⟩) he).attnMask

/-- A flag falls only with an executed write (R165). -/
theorem exec_flag_falls {i : Instr} (reset : Instr.isReset i = false) (high : s.resetn = true)
    (he : exec i s = .next t) {k : Nat} (set : s.port.flags.getLsbD k = true) (fell : t.port.flags.getLsbD k = false) :
    (encodeWrite i).isSome = true ∧ (t.port.lastResult = .ok ∨ t.port.lastResult = .clamped) := by
  by_cases write : encodeWrite i = none
  · exact absurd (fell.symm.trans ((exec_notifies i write reset he).flag k set)) nofun
  refine ⟨Option.isSome_iff_ne_none.mpr write, ?_⟩
  by_cases clear : ∃ w, i = .clearNotices w
  · obtain ⟨w, rfl⟩ := clear
    rw [exec_clearNotices high] at he
    cases he
    exact .inl rfl
  by_cases mask : ∃ w, i = .setAttnMask w
  · obtain ⟨w, rfl⟩ := mask
    rw [exec_setAttnMask high] at he
    cases he
    exact .inl rfl
  exact (exec_writeEnds i write (fun w h => mask ⟨w, h⟩) (fun w h => clear ⟨w, h⟩) he).executed set fell

/-- The power-on mask enables RESET and the three SILENT notices, bits 0 to 3 (R165, R166). -/
theorem Port.powerOn_attnMask (straps : BitVec 2) (i : Nat) :
    (Port.powerOn straps).attnMask.getLsbD i = decide (i < 4) := by
  have low : ∀ i < 10, (0x00F : BitVec 10).getLsbD i = decide (i < 4) := by decide
  by_cases hi : i < 10
  · exact low i hi
  · rw [BitVec.getLsbD_of_ge _ i (by omega), decide_eq_false (by omega)]

/-- RESET is set at power-on (R165). -/
theorem Port.powerOn_reset (straps : BitVec 2) : (Port.powerOn straps).flags.getLsbD 0 = true := by
  simp [Port.powerOn]

end Attn

/-- Settles O51. -/
theorem attnFollowsTheEnabledFlags : Obligations.AttnFollowsTheEnabledFlags := by
  refine ⟨State.attnLow_iff, fun s w high => exec_setAttnMask high w, fun p s t he => ?powerOn,
    fun i s t high mask notEnd he => ?mask, fun s t he => ?held, fun i s t he high set fell => ?reset,
    fun s high => exec_readNotices high, fun s w high => exec_clearNotices high w⟩
  case powerOn =>
    cases he
    have mask := Port.powerOn_attnMask p.straps
    exact ⟨mask, (State.attnLow_iff _).mpr ⟨rfl, 0, by decide, Port.powerOn_reset p.straps, mask 0⟩⟩
  case mask =>
    obtain ⟨reset, before⟩ := exec_running high notEnd he
    exact exec_attnMask mask reset before he
  case held =>
    cases he
    rfl
  case reset =>
    by_cases isEnd : ∃ p, i = .resetEnd p
    · obtain ⟨p, rfl⟩ := isEnd
      cases he
      exact absurd (fell.symm.trans (Port.powerOn_reset p.straps)) nofun
    · obtain ⟨reset, before⟩ := exec_running high (fun p h => isEnd ⟨p, h⟩) he
      exact exec_flag_falls reset before he set fell

end Sys2Proof.Machine
end

section
namespace Sys2Proof.Machine

/-! ## The READ rows and the refused writes -/

section Reads

variable {s : State} {i : Instr} {readout : State → Option (List Byte)}

/-- A READ that names something leaves its readout with OK (R164). -/
theorem exec_read_some (hi : Instr.readout i = some readout) (high : s.resetn = true) {bs : List Byte}
    (named : readout s = some bs) : exec i s = .next { s with port := s.port.wrote .ok bs } := by
  rw [exec_read hi, s.whenRunning_high _ high, named]
  exact congrArg _ (s.finishWrite_eq .ok bs)

/-- A READ whose index names nothing is refused with RANGE (R156, R164). -/
theorem exec_read_none (hi : Instr.readout i = some readout) (high : s.resetn = true) (unnamed : readout s = none) :
    exec i s = .next { s with port := s.port.refused .range } := by
  rw [exec_read hi, s.whenRunning_high _ high, unnamed]
  rfl

theorem exec_readClient_none {b : Byte} (high : s.resetn = true) (hb : 2 < b.toNat) :
    exec (.readClient b) s = .next { s with port := s.port.refused .range } :=
  exec_read_none rfl high (by simp [clientOfIndex_none hb])

theorem exec_readAccount_none {b : Byte} (high : s.resetn = true) (hb : 2 < b.toNat) :
    exec (.readAccount b) s = .next { s with port := s.port.refused .range } :=
  exec_read_none rfl high (by simp [clientOfIndex_none hb])

theorem exec_emptyWrite (s : State) : exec .emptyWrite s = .next s :=
  State.whenRunning_unchanged (f := fun s => s) rfl

theorem exec_discardedWrite (high : s.resetn = true) (x : WriteFault) :
    exec (.discardedWrite x) s = .next { s with port := s.port.refused (discardResult x) } :=
  s.whenRunning_high (fun s => s.refuseWrite (discardResult x)) high

end Reads

/-! ## The layouts of the readouts -/

section Layouts

/-! ### READ ENTRY -/

/-- The three bytes of the low 24 bits of an air time (R3, R157). -/
theorem bytes3_low24 (t : AirTime) :
    bytes3 (low24Nat t) = [t.extractLsb' 16 8, t.extractLsb' 8 8, t.extractLsb' 0 8] := by
  have field (k : Nat) (hk : k + 8 ≤ 24) : BitVec.ofNat 8 (low24Nat t / 2 ^ k) = t.extractLsb' k 8 := by
    refine (ofNat_toNat_div (low24 t) k 8).trans ?_
    refine BitVec.eq_of_getLsbD_eq fun i hi => ?_
    have inLow : k + i < 24 := by omega
    simp [low24, inLow]
  have low := field 0 (by decide)
  rw [pow_zero, Nat.div_one] at low
  rw [← field 16 (by decide), ← field 8 (by decide), ← low]
  rfl

/-- The pending offset of an entry as READ ENTRY shows it, 0 when absent (R164). -/
def Entry.offsetWord (e : Entry) : BitVec 16 :=
  match e.pendingOffset with
  | none => 0
  | some o => o.signExtend 16

theorem Entry.offsetWord_toNat (e : Entry) : e.offsetWord.toNat = offsetNat e.pendingOffset := by
  unfold Entry.offsetWord offsetNat
  cases e.pendingOffset <;> rfl

/-- The readout of an entry, its air times and its offset as fields of their bits (R164). -/
theorem entryReadout_fields (e : Entry) : entryReadout e =
    byte1 (clientIndex e.owner) ++ byte1 e.flow ++ byte1 (entryStatusCode e.status) ++
      [e.start.extractLsb' 16 8, e.start.extractLsb' 8 8, e.start.extractLsb' 0 8] ++ bytes2 e.duration ++
      bytes3 e.period ++ bytes2 e.count ++ bytes3 e.slide ++ bytes2 e.load ++
      [(if e.grantStart.isSome then 1 else 0) ||| (if e.pendingOffset.isSome then 2 else 0)] ++
      [(e.grantStart.getD 0).extractLsb' 16 8, (e.grantStart.getD 0).extractLsb' 8 8,
        (e.grantStart.getD 0).extractLsb' 0 8] ++ twoBytes e.offsetWord := by
  have grant : (e.grantStart.map low24Nat).getD 0 = low24Nat (e.grantStart.getD 0) := by
    cases e.grantStart <;> rfl
  have presence : byte1 ((if e.grantStart.isSome then 1 else 0) + if e.pendingOffset.isSome then 2 else 0) =
      [(if e.grantStart.isSome then 1 else 0) ||| (if e.pendingOffset.isSome then 2 else 0)] := by
    cases e.grantStart <;> cases e.pendingOffset <;> simp [byte1]
  rw [entryReadout, grant, presence, bytes3_low24, bytes3_low24, ← e.offsetWord_toNat, bytes2_toNat]

/-! ### READ AIR -/

/-- The remaining guard while one runs (R111). -/
theorem State.remainingGuard_of_guardEnd {s : State} {g : AirTime} (h : s.arb.mode.guardEnd = some g) :
    s.remainingGuard = if reached s.clock g then 0 else (g - s.clock).toNat := by
  rw [State.remainingGuard, h]

theorem State.remainingGuard_none {s : State} (h : s.arb.mode.guardEnd = none) : s.remainingGuard = 0 := by
  rw [State.remainingGuard, h]

/-! ### READ CHANNEL -/

theorem maskBytes_length (avoided : List Nat) (n : Nat) : (maskBytes avoided n).length = n := by simp [maskBytes]

/-- Bit `k % 8` of byte `k / 8` of a mask says whether channel `k` is avoided (R164). -/
theorem maskBytes_bit (avoided : List Nat) {n k : Nat} (hk : k < 8 * n) :
    ((maskBytes avoided n)[k / 8]?).map (fun b => b.getLsbD (k % 8)) = some (decide (k ∈ avoided)) := by
  have byte : k / 8 < n := by omega
  have bit : k % 8 < 8 := Nat.mod_lt _ (by decide)
  have shown : (maskBytes avoided n)[k / 8]? = some (BitVec.ofNat 8 (maskBits avoided (8 * (k / 8)) 8)) := by
    simp [maskBytes, byte]
  rw [shown, Option.map_some, BitVec.getLsbD_ofNat, maskBits_testBit, Nat.div_add_mod]
  simp [bit]

theorem State.channelReadout_eq (s : State) : s.channelReadout =
    (byte1 (noteOffsetOf s.channel.note) ++ byte1 (noteWidthCode s.channel.note) ++ byte1 s.policy.channelGuard) ++
      (maskBytes s.channel.srAvoided 10 ++ (maskBytes s.channel.arAvoided 2 ++
        (byte1 (srUsable s.channel) ++ byte1 s.channel.srRestored ++ byte1 (arUsable s.channel) ++
          byte1 s.channel.arRestored))) := by
  simp [State.channelReadout]

/-- Bytes 3 to 12 of READ CHANNEL hold SR's mask (R164). -/
theorem State.channelReadout_srByte (s : State) {j : Nat} (hj : j < 10) :
    s.channelReadout[3 + j]? = (maskBytes s.channel.srAvoided 10)[j]? := by
  rw [State.channelReadout_eq, List.getElem?_append_right (by simp [byte1]),
    List.getElem?_append_left (by simp [byte1, maskBytes_length, hj])]
  simp [byte1]

/-- Bytes 13 and 14 of READ CHANNEL hold AR's mask (R164). -/
theorem State.channelReadout_arByte (s : State) {j : Nat} (hj : j < 2) :
    s.channelReadout[13 + j]? = (maskBytes s.channel.arAvoided 2)[j]? := by
  have beyond : 13 + j - 3 - 10 = j := by omega
  rw [State.channelReadout_eq, List.getElem?_append_right (by simp [byte1]; omega),
    List.getElem?_append_right (by simp [byte1, maskBytes_length]; omega),
    List.getElem?_append_left (by simp [byte1, maskBytes_length]; omega)]
  simp [byte1, maskBytes_length, beyond]

theorem State.channelReadout_srBit (s : State) {k : Nat} (hk : k < 80) :
    (s.channelReadout[3 + k / 8]?).map (fun b => b.getLsbD (k % 8)) = some (decide (k ∈ s.channel.srAvoided)) := by
  rw [s.channelReadout_srByte (by omega), maskBytes_bit s.channel.srAvoided hk]

theorem State.channelReadout_arBit (s : State) {k : Nat} (hk : k < 16) :
    (s.channelReadout[13 + k / 8]?).map (fun b => b.getLsbD (k % 8)) = some (decide (k ∈ s.channel.arAvoided)) := by
  rw [s.channelReadout_arByte (by omega), maskBytes_bit s.channel.arAvoided hk]

/-- SR has no channel above 78: under `masksFollow` none is avoided (R131, R134). -/
theorem State.masksFollow.srAvoided_lt {s : State} (h : s.masksFollow) {k : Nat} (hk : k ∈ s.channel.srAvoided) :
    k < 79 := by
  rw [h.1] at hk
  unfold computeChannel at hk
  split at hk
  · cases hk
  · exact (mem_srMarked_iff.mp ((restore_sublist _ _ _ _).subset hk)).1

/-! ### What a read returns -/

theorem State.readBytes_length (s : State) (n : Nat) : (s.readBytes n).length = n := by
  rw [State.readBytes, List.length_take, List.length_append, List.length_replicate]
  omega

/-- A read returns the result byte and the readout, and 0x00 after them (R158). -/
theorem State.readBytes_getElem? (s : State) {n i : Nat} (hi : i < n) :
    (s.readBytes n)[i]? = some (((portResultByte s.port.lastResult :: s.port.readout)[i]?).getD 0) := by
  unfold State.readBytes
  generalize portResultByte s.port.lastResult :: s.port.readout = bs
  rw [List.getElem?_take_of_lt hi]
  by_cases shown : i < bs.length
  · rw [List.getElem?_append_left shown]
    simp [shown]
  · have zero : i - bs.length < n := by omega
    rw [List.getElem?_append_right (Nat.not_lt.mp shown)]
    simp [zero, shown]

end Layouts

/-- Settles O52. -/
theorem readsLeaveTheirReadouts : Obligations.ReadsLeaveTheirReadouts := by
  refine ⟨fun s b c high hb => ⟨exec_read_some rfl high ?client, exec_read_some rfl high ?account⟩,
    fun s b f high hf => exec_read_some rfl high ?flow, fun s b e high he => exec_read_some rfl high ?entry,
    fun s high => ⟨exec_read_some rfl high rfl, exec_read_some rfl high rfl, exec_read_some rfl high rfl,
      exec_read_some rfl high rfl, exec_emptyWrite s⟩,
    fun s b high => ⟨fun hb => ⟨exec_readClient_none high hb, exec_readAccount_none high hb⟩,
      fun hk => exec_read_none rfl high ?noFlow, fun hn => exec_read_none rfl high ?noEntry⟩,
    fun s b n m high => ⟨exec_discardedWrite high _, exec_discardedWrite high _, exec_discardedWrite high _, rfl⟩,
    fun s c => ?clientBytes, fun s c => rfl, fun s f => ?flowBytes, fun e => ?entryBytes, fun s => ?airBytes,
    fun s => ?channelBytes, fun s v hv => ?surveyBytes, fun s => rfl, fun c => ?clientCode, fun x => ?liveCode,
    fun s few => ?orderBytes, fun s n => ⟨s.readBytes_length n, fun i hi => s.readBytes_getElem? hi⟩⟩
  case client | account => simp only [hb, Option.map_some]
  case flow => simp only [hf, Option.map_some]
  case entry => simp only [he, Option.map_some]
  case noFlow => simp only [hk, Option.map_none]
  case noEntry => simp only [hn, Option.map_none]
  case clientBytes =>
    simp only [State.clientReadout, byte1, apply_ite (BitVec.ofNat 8)]
    cases (s.live.get c).binding <;> rfl
  case flowBytes =>
    simp only [State.flowReadout, effectiveClass, byte1, apply_ite (BitVec.ofNat 8)]
    cases f.pinned <;> rfl
  case entryBytes =>
    refine ⟨BitVec.ofNat 8 (entryStatusCode e.status), if e.grantStart.isSome then 1 else 0, e.grantStart.getD 0,
      e.offsetWord, ?_, rfl, entryReadout_fields e⟩
    unfold Entry.grantStart
    cases e.status <;> rfl
  case airBytes =>
    refine ⟨_, _, _, _, _, _, _, rfl, ?_, fun g hg => ?_, fun hg => ?_, ?_⟩
    · cases s.arb.mode <;> rfl
    · rw [State.remainingGuard_of_guardEnd hg, apply_ite (BitVec.ofNat 8)]
      rfl
    · rw [State.remainingGuard_none hg]
      rfl
    · intro x hx
      fin_cases hx <;> rfl
  case channelBytes =>
    refine ⟨rfl, fun h => ?_, fun n h => ?_, rfl, fun k hk => s.channelReadout_srBit (by omega), fun follows => ?_,
      fun k hk => s.channelReadout_arBit hk, rfl⟩
    · rw [State.channelReadout_eq, h]
      rfl
    · rw [State.channelReadout_eq, h]
      obtain ⟨centre, width⟩ := n
      cases width <;> rfl
    · refine (s.channelReadout_srBit (k := 79) (by decide)).trans (congrArg some (decide_eq_false fun hk => ?_))
      exact absurd (follows.srAvoided_lt hk) (by decide)
  case surveyBytes =>
    subst hv
    unfold State.surveyReadout
    obtain ⟨state, _⟩ := s.acct.survey
    cases state <;> rfl
  case clientCode => cases c <;> rfl
  case liveCode => cases x <;> rfl
  case orderBytes =>
    refine ⟨BitVec.ofNat 8 s.plan.length, s.planOrder.map fun e => BitVec.ofNat 8 e.number, rfl, ?_, ?_⟩
    · rw [BitVec.toNat_ofNat, Nat.mod_eq_of_lt (by omega)]
    · rw [List.length_map]
      exact (State.foldr_insertOrdered_perm s.plan).length_eq

end Sys2Proof.Machine
end


section
namespace Sys2Proof.Machine

/-! ## The step with a command waiting -/

/-- Settles O1: with a command in front, the queue's match takes the branch that runs it. -/
theorem stepTakesTheFrontCommand : Obligations.StepTakesTheFrontCommand := by
  intro c rest s hq
  unfold step
  rw [hq]

end Sys2Proof.Machine
end
